-- ==== Sys2Proof/Word.lean ====
section
/-! DEFINITION. The plain data types of the block: bytes, 32-bit words and line levels (00_scope.md R9).
Every bit-order helper stands in Machine/Bits.lean. -/

namespace Sys2Proof

/-- A `u8` of R9: one byte of a buffer, an `info` or a `request`. -/
abbrev Byte := BitVec 8

/-- A `u32` of R9: `COUNT`, `DATA`, `RDATA`, the command word and the fields of `cfg.chain`. -/
abbrev Word := BitVec 32

/-- A `bit` of R9: one line level, `true` is 1 (high). -/
abbrev Level := Bool

end Sys2Proof
end

