-- ==== Sys2Proof/Config.lean ====
section
/-! DEFINITION. The implementation parameters (00_scope.md R8) and the free values. A parameter the spec fixes
is a plain definition; one it marks OPEN is an opaque constant, so that no proof can lean on its value. The
machine reads the OPEN ones through the `Params` record of its state, so that every statement over all states
holds for every choice of them (log 5). -/

namespace Sys2Proof

/-- The execution backend (R8, D10): one bit per backend call, or bursts of the hardware shift engine. -/
inductive Backend where
  | software
  | hardware
  deriving DecidableEq, Repr, Inhabited

/-- The parameters of R8 that have no value fixed by the spec (and `IDCODE_FROM_RESET`, which has a default). -/
structure Params where
  /-- `BACKEND`: fixed before any set-up (D10). -/
  backend : Backend
  /-- `MAX_DEVICES`: largest `deviceCount` (D30). -/
  maxDevices : Nat
  /-- `MAX_COUNT`: largest `count`; at least 1000 (D39). -/
  maxCount : Nat
  /-- `IDCODE_FROM_RESET`: whether `JTAG_READ_IDCODE` begins by forcing Test-Logic-Reset (D15). -/
  idcodeFromReset : Bool
  /-- `SLEW`: stored at set-up, read by no rule (D9). -/
  slew : Nat
  /-- `DELAY_FALLBACK`: non-zero delay used for a zero `delayTicks`; timing only (D37). -/
  delayFallback : Nat
  deriving DecidableEq, Repr

/-- `BURST_MAX` of R8. -/
def Config.burstMax : Nat := 64

/-- `SEQ_MAX` of R8: the largest cycle count an `info` byte can name. -/
def Config.seqMax : Nat := 64

/-- `IR_MAX` of R8: the longest instruction register the block shifts. -/
def Config.irMax : Nat := 32

/-- OPEN parameter `BACKEND` (R8). -/
opaque Config.backend : Backend

/-- OPEN parameter `MAX_DEVICES` (R8). -/
opaque Config.maxDevices : Nat

/-- How far the OPEN parameter `MAX_COUNT` lies above 1000, the least value R8 allows. -/
opaque Config.maxCountAbove1000 : Nat

/-- OPEN parameter `SLEW` (R8). -/
opaque Config.slew : Nat

/-- How far the OPEN parameter `DELAY_FALLBACK` lies above 1: R8 says it is non-zero. -/
opaque Config.delayFallbackAbove1 : Nat

/-- The parameters of the block that `State.reset` describes. `idcodeFromReset` is R8's default. -/
def Config.params : Params :=
  { backend := Config.backend
    maxDevices := Config.maxDevices
    maxCount := 1000 + Config.maxCountAbove1000
    idcodeFromReset := true
    slew := Config.slew
    delayFallback := 1 + Config.delayFallbackAbove1 }

/-- FREE VALUE (log 3). The level the target answers to the `n`-th sample, where the state's list of coming
answers has ended: "A model takes the target as an unconstrained oracle" (R12, U1). -/
opaque Config.targetLevel : Nat → Level

end Sys2Proof
end

