-- ==== Sys2Proof/Syntax.lean ====
section
/-! DEFINITION. The operations of the block as data: one constructor of `Instr` per row of
spec/opcode_table.json (30_encoding.md R95), the side operands and the configuration that travel beside the
command word (10_state.md R32 to R37, R40), and the reasons a command word is rejected (R99). -/

namespace Sys2Proof

/-- The 27 operations of R95. An argument is a field of the command word (R94, R96); every other operand of an
operation is a side operand (`Operands`). -/
inductive Instr where
  /-- `PORT_OFF`, code 0x00 (R265). -/
  | portOff
  /-- `PORT_JTAG_SETUP`, code 0x01 (R263). -/
  | portJtagSetup
  /-- `PORT_SWD_SETUP`, code 0x02 (R264). -/
  | portSwdSetup
  /-- `CLOCK_SEQUENCE`, code 0x10 (R146), with the flags of R96. -/
  | clockSequence (cap held outPresent : Bool)
  /-- `JTAG_SEQUENCE`, code 0x11 (R155); `info` is laid out by R81. -/
  | jtagSequence (info : Byte)
  /-- `SWD_SEQUENCE`, code 0x12 (R157); `info` is laid out by R82. -/
  | swdSequence (info : Byte)
  /-- `SWJ_SEQUENCE`, code 0x13 (R270). -/
  | swjSequence
  /-- `JTAG_READ_IDCODE`, code 0x20 (R180). -/
  | jtagReadIdcode
  /-- `JTAG_IR`, code 0x21 (R183). -/
  | jtagIr
  /-- `JTAG_DR`, code 0x22 (R188). -/
  | jtagDr
  /-- `JTAG_TRANSFER`, code 0x23 (R192); `request` is laid out by R84. -/
  | jtagTransfer (request : Byte) (checkAck : Bool)
  /-- `JTAG_WRITE_ABORT`, code 0x24 (R200). -/
  | jtagWriteAbort
  /-- `SWD_TRANSFER`, code 0x30 (R228); `request` is laid out by R84. -/
  | swdTransfer (request : Byte)
  /-- `PIN_SWCLK_TCK_SET`, code 0x40 (R120). -/
  | pinSwclkTckSet
  /-- `PIN_SWCLK_TCK_CLR`, code 0x41 (R121). -/
  | pinSwclkTckClr
  /-- `PIN_SWDIO_OUT`, code 0x42 (R122): `level` is `A[0]`, `ignored` is `A[7:1]` (R99). -/
  | pinSwdioOut (level : Bool) (ignored : BitVec 7)
  /-- `PIN_SWDIO_OUT_ENABLE`, code 0x43 (R123). -/
  | pinSwdioOutEnable
  /-- `PIN_SWDIO_OUT_DISABLE`, code 0x44 (R124). -/
  | pinSwdioOutDisable
  /-- `PIN_TDI_OUT`, code 0x45 (R125): `level` is `A[0]`, `ignored` is `A[7:1]` (R99). -/
  | pinTdiOut (level : Bool) (ignored : BitVec 7)
  /-- `PIN_TDO_IN`, code 0x46 (R126). -/
  | pinTdoIn
  /-- `PIN_nRESET_OUT`, code 0x47 (R127): `level` is `A[0]`, `ignored` is `A[7:1]` (R99). -/
  | pinNResetOut (level : Bool) (ignored : BitVec 7)
  /-- `PIN_SWDIO_TMS_SET`, code 0x48 (R128). -/
  | pinSwdioTmsSet
  /-- `PIN_SWDIO_TMS_CLR`, code 0x49 (R129). -/
  | pinSwdioTmsClr
  /-- `PIN_SWDIO_IN`, code 0x4A (R130). -/
  | pinSwdioIn
  /-- `PIN_SWCLK_TCK_IN`, code 0x4B (R131). -/
  | pinSwclkTckIn
  /-- `PIN_TDI_IN`, code 0x4C (R132). -/
  | pinTdiIn
  /-- `PIN_nRESET_IN`, code 0x4D (R133). -/
  | pinNResetIn
  deriving DecidableEq, Repr

/-- Why a command word names no operation (R94, R96, R99). -/
inductive EncodingProblem where
  /-- `CW[31:24]` is not 0 (R94, R99). -/
  | reservedBits
  /-- `OP` is not a code of R95 (R99). -/
  | reservedOpcode
  /-- `A` is not 0 in an operation without an 8-bit argument (R94). -/
  | argumentNotZero
  /-- A bit of `F` is set that R96 does not name for the operation. -/
  | flagNotZero
  deriving DecidableEq, Repr

/-- `cfg.chain` (R33): the place of the target device in the scan path. -/
structure ChainPosition where
  deviceIndex : Word
  deviceCount : Word
  irLengthPerDevice : List Word
  irBeforeBits : Word
  irAfterBits : Word
  deriving DecidableEq, Repr

/-- `turnaroundCycles: 1..4` (R34); R249 asks for "a type with exactly those four values". -/
inductive Turnaround where
  | one
  | two
  | three
  | four
  deriving DecidableEq, Repr

/-- `cfg.swd` (R34). -/
structure SwdConfig where
  turnaroundCycles : Turnaround
  dataPhaseOnError : Bool
  deriving DecidableEq, Repr

/-- `cfg.clock` (R35): it paces the clock and changes no event and no result. -/
structure ClockTiming where
  requestedFrequencyHz : Word
  delayTicks : Word
  deriving DecidableEq, Repr

/-- `cfg` (R32): the configuration the command processor passes with each operation. -/
structure Cfg where
  chain : ChainPosition
  swd : SwdConfig
  clock : ClockTiming
  /-- R36, `IDLE_W` = 8 bits. -/
  idleCycles : Byte
  /-- R37. -/
  timestampRequest : Bool
  deriving DecidableEq, Repr

/-- The side operands of R40: what travels beside the command word. -/
structure Operands where
  count : Word
  data : Word
  txbuf : List Byte
  /-- Set-up operations only: the trace owner holds the shift engine (R262). -/
  trace : Bool
  cfg : Cfg
  deriving DecidableEq, Repr

/-- One operation as the command processor issues it: the command word of R94 and the operands of R40. With it
stands the environment's own input for the operation: whether the shift engine's ready flag comes (R334, U7). -/
structure Command where
  word : Word
  operands : Operands
  engineReady : Bool
  deriving DecidableEq, Repr

end Sys2Proof
end

