-- ==== Sys2Proof/WellFormed.lean ====
section
/-! DEFINITION. Which parameters and which operands the spec calls legal: the value tables of 00_scope.md R8 and
10_state.md R33 and the operand conditions of R146, R155, R157, R172, R249 and R270. Every command word field
has a type without illegal values, so every `Instr` is well-formed by itself; what can be ill-formed is an
operation together with its side operands. The mode an operation needs (R98) is not an operand and not here. -/

namespace Sys2Proof

/-- The limits R8 puts on the OPEN parameters: `MAX_COUNT` at least 1000, `DELAY_FALLBACK` non-zero. -/
def Params.wellFormed (p : Params) : Bool :=
  decide (1000 ≤ p.maxCount) && decide (0 < p.delayFallback)

/-- R172 (b), R33: `1 <= deviceCount <= MAX_DEVICES` and `deviceIndex < deviceCount`. -/
def ChainPosition.placed (p : Params) (c : ChainPosition) : Bool :=
  decide (1 ≤ c.deviceCount.toNat) && decide (c.deviceCount.toNat ≤ p.maxDevices) &&
    decide (c.deviceIndex.toNat < c.deviceCount.toNat)

/-- R172 (c), R33: the target's instruction register has 1 to `IR_MAX` bits. -/
def ChainPosition.irLengthLegal (c : ChainPosition) : Bool :=
  match c.irLengthPerDevice[c.deviceIndex.toNat]? with
  | some l => decide (1 ≤ l.toNat) && decide (l.toNat ≤ Config.irMax)
  | none => false

/-- `COUNT <= MAX_COUNT` (R146, R270). -/
def Operands.countLegal (p : Params) (o : Operands) : Bool :=
  decide (o.count.toNat ≤ p.maxCount)

/-- R172 (d): `1 <= COUNT <= MAX_COUNT`. -/
def Operands.bitCountLegal (p : Params) (o : Operands) : Bool :=
  decide (1 ≤ o.count.toNat) && decide (o.count.toNat ≤ p.maxCount)

/-- `TXBUF` holds the `ceil(n/8)` bytes of an `n`-cycle sequence (R40, R146, U5). -/
def Operands.txbufHolds (o : Operands) (n : Nat) : Bool :=
  decide ((n + 7) / 8 ≤ o.txbuf.length)

/-- R37, R172 (e), R249: no timestamp is asked for. -/
def Operands.noTimestamp (o : Operands) : Bool :=
  !o.cfg.timestampRequest

/-- The cycle count an `info` byte names (R83), written here from the rule's own words. -/
def infoCycles (info : Byte) : Nat :=
  if info.toNat % 64 = 0 then 64 else info.toNat % 64

/-- The operands are legal for the operation, under the parameters `p`. -/
def Instr.operandsLegal (p : Params) (o : Operands) : Instr → Bool
  | .portOff => true
  | .portJtagSetup => true
  | .portSwdSetup => true
  | .clockSequence _ _ outPresent => o.countLegal p && (!outPresent || o.txbufHolds o.count.toNat)
  | .jtagSequence info => o.txbufHolds (infoCycles info)
  | .swdSequence info => decide (128 ≤ info.toNat) || o.txbufHolds (infoCycles info)
  | .swjSequence => o.countLegal p && o.txbufHolds o.count.toNat
  | .jtagReadIdcode => o.cfg.chain.placed p
  | .jtagIr => o.cfg.chain.placed p && o.cfg.chain.irLengthLegal
  | .jtagDr => o.cfg.chain.placed p && o.bitCountLegal p && o.txbufHolds o.count.toNat
  | .jtagTransfer _ _ => o.cfg.chain.placed p && o.noTimestamp
  | .jtagWriteAbort => o.cfg.chain.placed p && o.noTimestamp
  | .swdTransfer _ => o.noTimestamp
  | .pinSwclkTckSet => true
  | .pinSwclkTckClr => true
  | .pinSwdioOut _ _ => true
  | .pinSwdioOutEnable => true
  | .pinSwdioOutDisable => true
  | .pinTdiOut _ _ => true
  | .pinTdoIn => true
  | .pinNResetOut _ _ => true
  | .pinSwdioTmsSet => true
  | .pinSwdioTmsClr => true
  | .pinSwdioIn => true
  | .pinSwclkTckIn => true
  | .pinTdiIn => true
  | .pinNResetIn => true

end Sys2Proof
end

