-- ==== Sys2Proof/Decode.lean ====
section
/-! DEFINITION. The command word (30_encoding.md R94 to R96, R99): the decoder, total on every 32-bit word and
rejecting by name, then the encoder and the rows of spec/opcode_table.json. The spec stores no command word in
any memory, so a word has no byte order here (log 2). -/

namespace Sys2Proof

/-- `CW[7:0]` (R94). -/
def opField (w : Word) : Byte := w.extractLsb' 0 8

/-- `CW[15:8]` (R94). -/
def argField (w : Word) : Byte := w.extractLsb' 8 8

/-- `CW[23:16]` (R94). -/
def flagField (w : Word) : Byte := w.extractLsb' 16 8

/-- `CW[31:24]` (R94): reserved, must be 0. -/
def reservedField (w : Word) : Byte := w.extractLsb' 24 8

/-- An operation without an 8-bit argument and without flags: `A` and `F` must be 0 (R94). -/
def plainWord (a f : Byte) (i : Instr) : Except EncodingProblem Instr :=
  if a ≠ 0 then .error .argumentNotZero
  else if f ≠ 0 then .error .flagNotZero
  else .ok i

/-- An operation with an 8-bit argument and without flags: `F` must be 0 (R94). -/
def argumentWord (f : Byte) (i : Instr) : Except EncodingProblem Instr :=
  if f ≠ 0 then .error .flagNotZero else .ok i

/-- `CLOCK_SEQUENCE`: `F[0]` cap, `F[1]` held, `F[2]` outPresent, the rest of `A` and `F` 0 (R96). -/
def clockSequenceWord (a f : Byte) : Except EncodingProblem Instr :=
  if a ≠ 0 then .error .argumentNotZero
  else if f.extractLsb' 3 5 ≠ 0 then .error .flagNotZero
  else .ok (.clockSequence (f.getLsbD 0) (f.getLsbD 1) (f.getLsbD 2))

/-- `JTAG_TRANSFER`: `A` is the request, `F[3]` is checkAck, the rest of `F` 0 (R96). -/
def jtagTransferWord (a f : Byte) : Except EncodingProblem Instr :=
  if f.extractLsb' 0 3 ≠ 0 then .error .flagNotZero
  else if f.extractLsb' 4 4 ≠ 0 then .error .flagNotZero
  else .ok (.jtagTransfer a (f.getLsbD 3))

/-- The operation of a code (R95), with its argument and flag bytes. -/
def decodeFields (op a f : Byte) : Except EncodingProblem Instr :=
  if op = 0x00#8 then plainWord a f .portOff
  else if op = 0x01#8 then plainWord a f .portJtagSetup
  else if op = 0x02#8 then plainWord a f .portSwdSetup
  else if op = 0x10#8 then clockSequenceWord a f
  else if op = 0x11#8 then argumentWord f (.jtagSequence a)
  else if op = 0x12#8 then argumentWord f (.swdSequence a)
  else if op = 0x13#8 then plainWord a f .swjSequence
  else if op = 0x20#8 then plainWord a f .jtagReadIdcode
  else if op = 0x21#8 then plainWord a f .jtagIr
  else if op = 0x22#8 then plainWord a f .jtagDr
  else if op = 0x23#8 then jtagTransferWord a f
  else if op = 0x24#8 then plainWord a f .jtagWriteAbort
  else if op = 0x30#8 then argumentWord f (.swdTransfer a)
  else if op = 0x40#8 then plainWord a f .pinSwclkTckSet
  else if op = 0x41#8 then plainWord a f .pinSwclkTckClr
  else if op = 0x42#8 then argumentWord f (.pinSwdioOut (a.getLsbD 0) (a.extractLsb' 1 7))
  else if op = 0x43#8 then plainWord a f .pinSwdioOutEnable
  else if op = 0x44#8 then plainWord a f .pinSwdioOutDisable
  else if op = 0x45#8 then argumentWord f (.pinTdiOut (a.getLsbD 0) (a.extractLsb' 1 7))
  else if op = 0x46#8 then plainWord a f .pinTdoIn
  else if op = 0x47#8 then argumentWord f (.pinNResetOut (a.getLsbD 0) (a.extractLsb' 1 7))
  else if op = 0x48#8 then plainWord a f .pinSwdioTmsSet
  else if op = 0x49#8 then plainWord a f .pinSwdioTmsClr
  else if op = 0x4A#8 then plainWord a f .pinSwdioIn
  else if op = 0x4B#8 then plainWord a f .pinSwclkTckIn
  else if op = 0x4C#8 then plainWord a f .pinTdiIn
  else if op = 0x4D#8 then plainWord a f .pinNResetIn
  else .error .reservedOpcode

/-- The decoder: the operation a command word names, or why it names none (R94, R95, R96, R99). -/
def decode (w : Word) : Except EncodingProblem Instr :=
  if reservedField w ≠ 0 then .error .reservedBits
  else decodeFields (opField w) (argField w) (flagField w)

/-- A command word from its fields (R94). -/
def packWord (op a f : Byte) : Word := 0#8 ++ f ++ a ++ op

/-- `A` of a level-taking accessor: `A[0]` the level, `A[7:1]` ignored bits (R99). -/
def levelArg (level : Bool) (ignored : BitVec 7) : Byte := ignored ++ BitVec.ofBool level

/-- `F` of `CLOCK_SEQUENCE` (R96). -/
def clockSequenceFlags (cap held outPresent : Bool) : Byte :=
  0#5 ++ BitVec.ofBool outPresent ++ BitVec.ofBool held ++ BitVec.ofBool cap

/-- `F` of `JTAG_TRANSFER` (R96). -/
def jtagTransferFlags (checkAck : Bool) : Byte :=
  0#4 ++ BitVec.ofBool checkAck ++ 0#3

/-- The encoder: the command word of an operation (R94 to R96). -/
def encode : Instr → Word
  | .portOff => packWord 0x00#8 0#8 0#8
  | .portJtagSetup => packWord 0x01#8 0#8 0#8
  | .portSwdSetup => packWord 0x02#8 0#8 0#8
  | .clockSequence cap held outPresent => packWord 0x10#8 0#8 (clockSequenceFlags cap held outPresent)
  | .jtagSequence info => packWord 0x11#8 info 0#8
  | .swdSequence info => packWord 0x12#8 info 0#8
  | .swjSequence => packWord 0x13#8 0#8 0#8
  | .jtagReadIdcode => packWord 0x20#8 0#8 0#8
  | .jtagIr => packWord 0x21#8 0#8 0#8
  | .jtagDr => packWord 0x22#8 0#8 0#8
  | .jtagTransfer request checkAck => packWord 0x23#8 request (jtagTransferFlags checkAck)
  | .jtagWriteAbort => packWord 0x24#8 0#8 0#8
  | .swdTransfer request => packWord 0x30#8 request 0#8
  | .pinSwclkTckSet => packWord 0x40#8 0#8 0#8
  | .pinSwclkTckClr => packWord 0x41#8 0#8 0#8
  | .pinSwdioOut level ignored => packWord 0x42#8 (levelArg level ignored) 0#8
  | .pinSwdioOutEnable => packWord 0x43#8 0#8 0#8
  | .pinSwdioOutDisable => packWord 0x44#8 0#8 0#8
  | .pinTdiOut level ignored => packWord 0x45#8 (levelArg level ignored) 0#8
  | .pinTdoIn => packWord 0x46#8 0#8 0#8
  | .pinNResetOut level ignored => packWord 0x47#8 (levelArg level ignored) 0#8
  | .pinSwdioTmsSet => packWord 0x48#8 0#8 0#8
  | .pinSwdioTmsClr => packWord 0x49#8 0#8 0#8
  | .pinSwdioIn => packWord 0x4A#8 0#8 0#8
  | .pinSwclkTckIn => packWord 0x4B#8 0#8 0#8
  | .pinTdiIn => packWord 0x4C#8 0#8 0#8
  | .pinNResetIn => packWord 0x4D#8 0#8 0#8

/-- One row of spec/opcode_table.json: a word belongs to the row when its masked bits are the pattern. -/
structure OpcodeRow where
  mnemonic : String
  mask : Word
  pattern : Word
  deriving DecidableEq, Repr

/-- The word has the row's fixed bits. -/
def OpcodeRow.covers (r : OpcodeRow) (w : Word) : Bool := w &&& r.mask == r.pattern

/-- spec/opcode_table.json, row by row, in its order. -/
def opcodeRows : List OpcodeRow :=
  [⟨"PORT_OFF", 0xFFFFFFFF#32, 0x00000000#32⟩,
    ⟨"PORT_JTAG_SETUP", 0xFFFFFFFF#32, 0x00000001#32⟩,
    ⟨"PORT_SWD_SETUP", 0xFFFFFFFF#32, 0x00000002#32⟩,
    ⟨"CLOCK_SEQUENCE", 0xFFF8FFFF#32, 0x00000010#32⟩,
    ⟨"JTAG_SEQUENCE", 0xFFFF00FF#32, 0x00000011#32⟩,
    ⟨"SWD_SEQUENCE", 0xFFFF00FF#32, 0x00000012#32⟩,
    ⟨"SWJ_SEQUENCE", 0xFFFFFFFF#32, 0x00000013#32⟩,
    ⟨"JTAG_READ_IDCODE", 0xFFFFFFFF#32, 0x00000020#32⟩,
    ⟨"JTAG_IR", 0xFFFFFFFF#32, 0x00000021#32⟩]
  ++ [⟨"JTAG_DR", 0xFFFFFFFF#32, 0x00000022#32⟩,
    ⟨"JTAG_TRANSFER", 0xFFF700FF#32, 0x00000023#32⟩,
    ⟨"JTAG_WRITE_ABORT", 0xFFFFFFFF#32, 0x00000024#32⟩,
    ⟨"SWD_TRANSFER", 0xFFFF00FF#32, 0x00000030#32⟩,
    ⟨"PIN_SWCLK_TCK_SET", 0xFFFFFFFF#32, 0x00000040#32⟩,
    ⟨"PIN_SWCLK_TCK_CLR", 0xFFFFFFFF#32, 0x00000041#32⟩,
    ⟨"PIN_SWDIO_OUT", 0xFFFF00FF#32, 0x00000042#32⟩,
    ⟨"PIN_SWDIO_OUT_ENABLE", 0xFFFFFFFF#32, 0x00000043#32⟩,
    ⟨"PIN_SWDIO_OUT_DISABLE", 0xFFFFFFFF#32, 0x00000044#32⟩]
  ++ [⟨"PIN_TDI_OUT", 0xFFFF00FF#32, 0x00000045#32⟩,
    ⟨"PIN_TDO_IN", 0xFFFFFFFF#32, 0x00000046#32⟩,
    ⟨"PIN_nRESET_OUT", 0xFFFF00FF#32, 0x00000047#32⟩,
    ⟨"PIN_SWDIO_TMS_SET", 0xFFFFFFFF#32, 0x00000048#32⟩,
    ⟨"PIN_SWDIO_TMS_CLR", 0xFFFFFFFF#32, 0x00000049#32⟩,
    ⟨"PIN_SWDIO_IN", 0xFFFFFFFF#32, 0x0000004A#32⟩,
    ⟨"PIN_SWCLK_TCK_IN", 0xFFFFFFFF#32, 0x0000004B#32⟩,
    ⟨"PIN_TDI_IN", 0xFFFFFFFF#32, 0x0000004C#32⟩,
    ⟨"PIN_nRESET_IN", 0xFFFFFFFF#32, 0x0000004D#32⟩]

/-- The row of the opcode table an operation stands for. -/
def rowOf : Instr → OpcodeRow
  | .portOff => ⟨"PORT_OFF", 0xFFFFFFFF#32, 0x00000000#32⟩
  | .portJtagSetup => ⟨"PORT_JTAG_SETUP", 0xFFFFFFFF#32, 0x00000001#32⟩
  | .portSwdSetup => ⟨"PORT_SWD_SETUP", 0xFFFFFFFF#32, 0x00000002#32⟩
  | .clockSequence _ _ _ => ⟨"CLOCK_SEQUENCE", 0xFFF8FFFF#32, 0x00000010#32⟩
  | .jtagSequence _ => ⟨"JTAG_SEQUENCE", 0xFFFF00FF#32, 0x00000011#32⟩
  | .swdSequence _ => ⟨"SWD_SEQUENCE", 0xFFFF00FF#32, 0x00000012#32⟩
  | .swjSequence => ⟨"SWJ_SEQUENCE", 0xFFFFFFFF#32, 0x00000013#32⟩
  | .jtagReadIdcode => ⟨"JTAG_READ_IDCODE", 0xFFFFFFFF#32, 0x00000020#32⟩
  | .jtagIr => ⟨"JTAG_IR", 0xFFFFFFFF#32, 0x00000021#32⟩
  | .jtagDr => ⟨"JTAG_DR", 0xFFFFFFFF#32, 0x00000022#32⟩
  | .jtagTransfer _ _ => ⟨"JTAG_TRANSFER", 0xFFF700FF#32, 0x00000023#32⟩
  | .jtagWriteAbort => ⟨"JTAG_WRITE_ABORT", 0xFFFFFFFF#32, 0x00000024#32⟩
  | .swdTransfer _ => ⟨"SWD_TRANSFER", 0xFFFF00FF#32, 0x00000030#32⟩
  | .pinSwclkTckSet => ⟨"PIN_SWCLK_TCK_SET", 0xFFFFFFFF#32, 0x00000040#32⟩
  | .pinSwclkTckClr => ⟨"PIN_SWCLK_TCK_CLR", 0xFFFFFFFF#32, 0x00000041#32⟩
  | .pinSwdioOut _ _ => ⟨"PIN_SWDIO_OUT", 0xFFFF00FF#32, 0x00000042#32⟩
  | .pinSwdioOutEnable => ⟨"PIN_SWDIO_OUT_ENABLE", 0xFFFFFFFF#32, 0x00000043#32⟩
  | .pinSwdioOutDisable => ⟨"PIN_SWDIO_OUT_DISABLE", 0xFFFFFFFF#32, 0x00000044#32⟩
  | .pinTdiOut _ _ => ⟨"PIN_TDI_OUT", 0xFFFF00FF#32, 0x00000045#32⟩
  | .pinTdoIn => ⟨"PIN_TDO_IN", 0xFFFFFFFF#32, 0x00000046#32⟩
  | .pinNResetOut _ _ => ⟨"PIN_nRESET_OUT", 0xFFFF00FF#32, 0x00000047#32⟩
  | .pinSwdioTmsSet => ⟨"PIN_SWDIO_TMS_SET", 0xFFFFFFFF#32, 0x00000048#32⟩
  | .pinSwdioTmsClr => ⟨"PIN_SWDIO_TMS_CLR", 0xFFFFFFFF#32, 0x00000049#32⟩
  | .pinSwdioIn => ⟨"PIN_SWDIO_IN", 0xFFFFFFFF#32, 0x0000004A#32⟩
  | .pinSwclkTckIn => ⟨"PIN_SWCLK_TCK_IN", 0xFFFFFFFF#32, 0x0000004B#32⟩
  | .pinTdiIn => ⟨"PIN_TDI_IN", 0xFFFFFFFF#32, 0x0000004C#32⟩
  | .pinNResetIn => ⟨"PIN_nRESET_IN", 0xFFFFFFFF#32, 0x0000004D#32⟩

/-- The 32-bit command word a row's `nbits` bits give: the bits above them are 0, and none may lie above 31. -/
def tableWord (nbits w : Nat) : Option Word :=
  let v := w % 2 ^ nbits
  if v < 2 ^ 32 then some (BitVec.ofNat 32 v) else none

/-- The operation the decoder reads from an instruction whose bits are `w`, numbered as the opcode table does. -/
def decodeTableWord (nbits w : Nat) : Option Instr :=
  match tableWord nbits w with
  | none => none
  | some cw =>
    match decode cw with
    | .ok i => some i
    | .error _ => none

end Sys2Proof
end

