-- ==== Sys2Proof/Machine/State.lean ====
section
/-! DEFINITION. The state of the block (10_state.md) as plain data, the events of its wire trace (00_scope.md
R13), the reasons a step is refused, the two faults, and the state after reset (R45, R321). -/

namespace Sys2Proof.Machine

/-- `S.mode`, the `TransportMode` (R21). -/
inductive Mode where
  | disabled
  | jtag
  | swd
  deriving DecidableEq, Repr

/-- `S.src`, the line-driver multiplexer (R26, R117). -/
inductive Source where
  | latch
  | shifter
  deriving DecidableEq, Repr

/-- `S.shiftOwner` (R30); `none` of the spec is `free` here. -/
inductive Owner where
  | free
  | jtag
  | swd
  | trace
  deriving DecidableEq, Repr

/-- The five lines of R24. -/
inductive Line where
  | swclkTck
  | swdioTms
  | tdi
  | tdo
  | nReset
  deriving DecidableEq, Repr

/-- One bit for each line: the output latches `S.out` or the directions `S.oe` (R24). -/
structure Lines where
  swclkTck : Bool
  swdioTms : Bool
  tdi : Bool
  tdo : Bool
  nReset : Bool
  deriving DecidableEq, Repr

/-- `S.cont`, the `ContinuationState` of the active mode (R22). -/
structure Continuation where
  lastDrivenBit : Level
  lastModeSelectLevel : Level
  deriving DecidableEq, Repr

/-- The events of the wire trace (R13). -/
inductive Event where
  /-- `Clk(JTAG, tms, tdi, t, cap)`. -/
  | clkJtag (tms tdi t : Level) (cap : Bool)
  /-- `Clk(SWD, Out, b)`. -/
  | clkSwdOut (b : Level)
  /-- `Clk(SWD, In, t, cap)`. -/
  | clkSwdIn (t : Level) (cap : Bool)
  /-- `Lvl(L, b)`. -/
  | lvl (l : Line) (b : Level)
  /-- `Dir(L, d)`, 1 output, 0 input. -/
  | dir (l : Line) (d : Bool)
  /-- `En(e)`. -/
  | en (e : Bool)
  deriving DecidableEq, Repr

/-- The bytes of `RXBUF` that have been captured, by byte number (R59, R62): byte numbers strictly rising. A byte
that is not listed holds no value (R45). -/
abbrev Mem := List Host.Cell

/-- The results of R41, by name. -/
inductive ResultName where
  | ack
  | perr
  | ok
  | rdata
  | rxbuf (byte : Nat)
  | rbit
  deriving DecidableEq, Repr

/-- Which results the operation last started has written: a result is "valid until the next operation starts" (R41),
and one it did not write "keeps no value from this operation" (93_implementation_defined.md U22). -/
structure Written where
  ack : Bool
  perr : Bool
  ok : Bool
  rdata : Bool
  /-- How many bytes of `RXBUF`, from byte 0 on (R62). -/
  rxBytes : Nat
  rbit : Bool
  deriving DecidableEq, Repr

/-- No result has been written (R45, and R41 when an operation starts). -/
def Written.nothing : Written := ⟨false, false, false, false, 0, false⟩

/-- What stops the machine. No OUTCOME of an operation is here: "nothing is raised", every outcome is a result
(R290). -/
inductive Fault where
  /-- Raised by the read functions of Machine/Results.lean, never by a step: the command processor reads a
  result that holds no value. "A result that holds 'no value' must not be read; a model makes such a read a fault
  rather than picking a number" (R45). Safe: the model stops where a real caller would read something. -/
  | resultHasNoValue (r : ResultName)
  /-- The stuck state of U7, raised by every operation that clocks a cycle (R334): with `BACKEND = Hardware`, "a
  stuck hardware FIFO-wait loop can block indefinitely"; "the operation never returns and no later operation
  starts". Safe: the model has no further step where the hardware waits for ever (log 9). -/
  | engineNeverReady
  deriving DecidableEq, Repr

/-- Why the model gives an operation no step ("refuse" of R14: no event, no state change, no result). -/
inductive Refusal where
  /-- An arm of `exec` that has no meaning yet. Safe: nothing can be proved of a run through it. -/
  | notModelled (mnemonic : String)
  /-- Raised by the fetch: the command word names no operation (R99, D27). Safe. -/
  | reservedEncoding (why : EncodingProblem)
  /-- Raised by every operation that R98 refuses in the active mode (D27, U3). Safe. -/
  | wrongMode
  /-- Raised by `CLOCK_SEQUENCE` and `SWJ_SEQUENCE`: `COUNT > MAX_COUNT` (R146, R270, U5). Safe. -/
  | countTooLarge
  /-- Raised by `JTAG_DR`: `COUNT` is 0 or above `MAX_COUNT` (R172 (d), U5). Safe. -/
  | bitCountOutOfRange
  /-- Raised by the sequences that read `TXBUF`: it holds fewer bytes than the bit count needs (R146, U5).
  Safe. -/
  | bufferTooShort
  /-- Raised by the composite JTAG operations: the chain descriptor has no legal place for the target (R172 (b),
  U5). Safe. -/
  | chainOutOfRange
  /-- Raised by `JTAG_IR`: the target's instruction register length is missing, 0 or above `IR_MAX` (R172 (c),
  U5). Safe. -/
  | irLengthOutOfRange
  /-- Raised by the three transfers: `cfg.timestampRequest = 1` (R37, R172 (e), R249, U6). Safe. -/
  | timestampRequested
  deriving DecidableEq, Repr

/-- The state: the record `S` of R20, the results of R41, the operands of the operation last started (R40), and
the model's own fields (INVENTORY.md, "State"). -/
structure State where
  /-- `S.mode` (R21). -/
  mode : Mode
  /-- `S.cont` (R22). -/
  cont : Option Continuation
  /-- `S.out[L]`, the output latches (R24). -/
  out : Lines
  /-- `S.oe[L]`, the directions: 1 output, 0 input (R24). -/
  oe : Lines
  /-- `S.enabled` (R25). -/
  enabled : Bool
  /-- `S.src` (R26). -/
  src : Source
  /-- `S.slew` (R27). -/
  slew : Nat
  /-- `S.shiftOwner` (R30). -/
  shiftOwner : Owner
  /-- Result `ACK` (R41); `none` is the spec's "no value" (R45, log 6). -/
  ack : Option (BitVec 3)
  /-- Result `PERR` (R41). -/
  perr : Option Bool
  /-- Result `OK` (R41). -/
  ok : Option Bool
  /-- Result `RDATA` (R41). -/
  rdata : Option Word
  /-- Result `RXBUF` (R41, R59). -/
  rxbuf : Mem
  /-- Result `RBIT` (R41). -/
  rbit : Option Level
  /-- Which of the results are the values of the operation last started (R41, U22, log 6). The registers above keep
  what an earlier operation wrote ("left unchanged by it", R41). -/
  written : Written
  /-- The side operands of the operation last started (R40); never written by an operation. -/
  operands : Operands
  /-- MODEL'S OWN: the parameters of R8; no step changes them (log 5). -/
  params : Params
  /-- MODEL'S OWN: what the command processor has issued and the block has not performed, next first (log 1). -/
  program : List Command
  /-- MODEL'S OWN: the levels the target will answer, next first (R12, log 3). -/
  target : List Level
  /-- MODEL'S OWN: how many oracle levels were taken; it selects the free value `Config.targetLevel` (log 3). -/
  samples : Nat
  /-- MODEL'S OWN: whether the shift engine's ready flag comes during the operation (R161, R334, U7); the
  environment's input, supplied with each command (log 9). -/
  engineReady : Bool
  /-- MODEL'S OWN: the wire trace (R13), oldest first; no operation reads it (R46, log 4). -/
  trace : List Event
  deriving DecidableEq, Repr

/-- Every line at one level. -/
def Lines.all (b : Bool) : Lines := ⟨b, b, b, b, b⟩

/-- DESIGN CHOICE (log 16): what the operand fields hold before any operation has been issued. R45: "not state:
supplied with each operation". No operation runs on them unless it is issued with them. -/
def Operands.atReset : Operands :=
  { count := 0
    data := 0
    txbuf := []
    trace := false
    cfg :=
      { chain := ⟨0, 0, [], 0, 0⟩
        swd := ⟨.one, false⟩
        clock := ⟨0, 0⟩
        idleCycles := 0
        timestampRequest := false } }

/-- The state after a hardware reset of a block with the parameters `p` (R45, R321). -/
def State.resetWith (p : Params) : State :=
  { mode := .disabled
    cont := none
    out := Lines.all true
    oe := Lines.all false
    enabled := false
    src := .latch
    slew := p.slew
    shiftOwner := .free
    ack := none
    perr := none
    ok := none
    rdata := none
    rxbuf := []
    rbit := none
    written := Written.nothing
    operands := Operands.atReset
    params := p
    program := []
    target := []
    samples := 0
    engineReady := true
    trace := [] }

/-- The machine right after reset (R45, R321). -/
def State.reset : State := State.resetWith Config.params

end Sys2Proof.Machine
end

