-- ==== Sys2Proof/Machine/Bits.lean ====
section
/-! DEFINITION. Bit order (20_memory.md R60 to R66): bits of buffers and words, packing of captured bits, the
per-byte reversal, and the capture buffer as a canonical list of cells. -/

namespace Sys2Proof.Machine

/-- `BitRead(buf, i) = buf[i div 8][i mod 8]` (R60). Every operation checks first that the byte is there. -/
def bitRead (buf : List Byte) (i : Nat) : Level := (buf.getD (i / 8) 0).getLsbD (i % 8)

/-- The first `n` bits of a drive buffer in the order they are driven (R60). -/
def bufferBits (buf : List Byte) (n : Nat) : List Level := (List.range n).map (bitRead buf)

/-- The low `n` bits of a word, bit 0 first: the order in which a word travels (R63). -/
def wordBits {w : Nat} (v : BitVec w) (n : Nat) : List Level := (List.range n).map v.getLsbD

/-- The word whose bit `i` is the `i`-th sample; bits with no sample are 0 (R61, R63). -/
def wordOfBits (w : Nat) (bits : List Level) : BitVec w := (BitVec.ofBoolListLE bits).setWidth w

/-- `ceil(n/8)` (R62). -/
def byteCount (n : Nat) : Nat := (n + 7) / 8

/-- The bytes of a capture: sample `i` at bit `i mod 8` of byte `i div 8`, the unused high bits of the last byte
0 (R61, R62). -/
def packBytes (bits : List Level) : List Byte :=
  (List.range (byteCount bits.length)).map fun k => wordOfBits 8 ((bits.drop (8 * k)).take 8)

/-- `reverse8(b)`: `r[i] = b[7-i]` (R66). -/
def reverse8 (b : Byte) : Byte := wordOfBits 8 ((List.range 8).map fun i => b.getLsbD (7 - i))

/-- `reverse_bits_in_place(buf)`: every byte reversed, the byte order kept (R66). -/
def reverseBuffer (buf : List Byte) : List Byte := buf.map reverse8

/-- The byte at index `a` of a capture buffer, if one was captured there. -/
def Mem.read : Mem → Nat → Option Byte
  | [], _ => none
  | (k, v) :: m, a => if a = k then some v else Mem.read m a

/-- Write the byte at index `a`, keeping the canonical form. -/
def Mem.write : Mem → Nat → Byte → Mem
  | [], a, b => [(a, b)]
  | (k, v) :: m, a, b =>
    if a < k then (a, b) :: (k, v) :: m
    else if a = k then (a, b) :: m
    else (k, v) :: Mem.write m a b

/-- Write consecutive bytes from index `a` on. -/
def Mem.writeBytes : Mem → Nat → List Byte → Mem
  | m, _, [] => m
  | m, a, b :: bs => Mem.writeBytes (Mem.write m a b) (a + 1) bs

/-- Every listed byte number is above `lo`, and they rise strictly. -/
def Mem.risesFrom : Option Nat → Mem → Bool
  | _, [] => true
  | none, (k, _) :: m => Mem.risesFrom (some k) m
  | some lo, (k, _) :: m => decide (lo < k) && Mem.risesFrom (some k) m

/-- The canonical form: byte numbers strictly rising. An unlisted byte reads as no value, so no listed byte can
equal what an unlisted one reads as. -/
def Mem.wf (m : Mem) : Bool := Mem.risesFrom none m

/-- Bit `i` of a capture buffer (R61), if its byte was captured. -/
def Mem.readBit (m : Mem) (i : Nat) : Option Level :=
  match Mem.read m (i / 8) with
  | some b => some (b.getLsbD (i % 8))
  | none => none

end Sys2Proof.Machine
end

