-- ==== Sys2Proof/Machine/Ops.lean ====
section
/-! DEFINITION. The primitives every operation is made of: the oracle (00_scope.md R12), the trace (R13), the
Line Driver primitives (40_line_driver.md R112 to R119), the three clock cycles (41_bit_sequence_engine.md R141
to R143), sequences of them, and the writes of results. The block has no exceptions (60_exceptions.md R290), so
there is no operation here that takes one. -/

namespace Sys2Proof.Machine

/-- The latch or direction bit of a line. -/
def Lines.get (x : Lines) : Line → Bool
  | .swclkTck => x.swclkTck
  | .swdioTms => x.swdioTms
  | .tdi => x.tdi
  | .tdo => x.tdo
  | .nReset => x.nReset

/-- One line's bit changed, the others kept. -/
def Lines.set (x : Lines) (l : Line) (b : Bool) : Lines :=
  match l with
  | .swclkTck => { x with swclkTck := b }
  | .swdioTms => { x with swdioTms := b }
  | .tdi => { x with tdi := b }
  | .tdo => { x with tdo := b }
  | .nReset => { x with nReset := b }

/-- The next level of the oracle (R12): the next scheduled answer of the target, or a free value (log 3). -/
def oracleLevel (s : State) : Level := s.target.headD (Config.targetLevel s.samples)

/-- One oracle level is used up (U1: "one oracle bit per sample, consumed in trace order"). -/
def consumeSample (s : State) : State := { s with target := s.target.tail, samples := s.samples + 1 }

/-- `emit(e)`: append an event to the wire trace (R11, R13). -/
def emit (e : Event) (s : State) : State := { s with trace := s.trace ++ [e] }

/-- `S.cont.lastDrivenBit`. There is no continuation state only while `Disabled` (R22), where nothing reads it;
the value for that case is the one a set-up writes (R322, log 15). -/
def contDrivenBit (s : State) : Level :=
  match s.cont with
  | some c => c.lastDrivenBit
  | none => true

/-- `S.cont.lastModeSelectLevel`; see `contDrivenBit` for the case without one. -/
def contModeSelect (s : State) : Level :=
  match s.cont with
  | some c => c.lastModeSelectLevel
  | none => true

/-- `S.cont.lastDrivenBit <- b`. -/
def setContDriven (b : Level) (s : State) : State :=
  { s with cont := s.cont.map fun c => { c with lastDrivenBit := b } }

/-- `S.cont.lastModeSelectLevel <- b`. -/
def setContModeSelect (b : Level) (s : State) : State :=
  { s with cont := s.cont.map fun c => { c with lastModeSelectLevel := b } }

/-- `ContUpdateOnSet(L, b)` (R118). -/
def contUpdateOnSet (l : Line) (b : Level) (s : State) : State :=
  match s.mode, l with
  | .jtag, .tdi => setContDriven b s
  | .jtag, .swdioTms => setContModeSelect b s
  | .swd, .swdioTms => if s.oe.swdioTms then setContDriven b s else s
  | _, _ => s

/-- `ContUpdateOnDir(L, d)` (R118). -/
def contUpdateOnDir (l : Line) (d : Bool) (s : State) : State :=
  match s.mode, l, d with
  | .swd, .swdioTms, true => setContDriven s.out.swdioTms s
  | _, _, _ => s

/-- `LineSet(L, b)` (R112). -/
def lineSet (l : Line) (b : Level) (s : State) : State :=
  contUpdateOnSet l b (emit (.lvl l b) { s with out := s.out.set l b })

/-- What a pin shows (R28): the latch, or high-impedance. -/
inductive PinLevel where
  | driven (b : Level)
  | highZ
  deriving DecidableEq, Repr

/-- `Pin(L)` (R28). -/
def pinLevel (l : Line) (s : State) : PinLevel :=
  if s.enabled && s.oe.get l then .driven (s.out.get l) else .highZ

/-- `LineGet(L)` (R113): the level, and the state with the oracle level used up where one was read. -/
def lineGet (l : Line) (s : State) : Level × State :=
  match pinLevel l s with
  | .driven b => (b, s)
  | .highZ => (oracleLevel s, consumeSample s)

/-- `LineDir(L, d)` (R114). -/
def lineDir (l : Line) (d : Bool) (s : State) : State :=
  contUpdateOnDir l d (emit (.dir l d) { s with oe := s.oe.set l d })

/-- `LinesEnable()` and `LinesDisable()` (R115, R116). -/
def linesEnable (e : Bool) (s : State) : State := emit (.en e) { s with enabled := e }

/-- `JCycle(tms, tdi, cap)` (R141), one TCK pulse: the sampled level and the state after. -/
def jCycle (tms : Level) (tdi : Option Level) (cap : Bool) (s : State) : Level × State :=
  let d := tdi.getD (contDrivenBit s)
  let low := { s with out := ((s.out.set .swdioTms tms).set .tdi d).set .swclkTck false }
  let t := oracleLevel low
  let sampled := consumeSample low
  let high :=
    { sampled with
      out := sampled.out.set .swclkTck true
      cont := some { lastDrivenBit := d, lastModeSelectLevel := tms } }
  (t, emit (.clkJtag tms d t cap) high)

/-- `SCycleOut(b)` (R142), one SWCLK pulse with SWDIO driven. -/
def sCycleOut (b : Level) (s : State) : State :=
  let low := { s with out := (s.out.set .swdioTms b).set .swclkTck false }
  let high := { low with out := low.out.set .swclkTck true }
  emit (.clkSwdOut b) (setContDriven b high)

/-- `SCycleIn(cap)` (R143), one SWCLK pulse with SWDIO released. -/
def sCycleIn (cap : Bool) (s : State) : Level × State :=
  let low := { s with out := s.out.set .swclkTck false }
  let t := oracleLevel low
  let sampled := consumeSample low
  let high := { sampled with out := sampled.out.set .swclkTck true }
  (t, emit (.clkSwdIn t cap) (if cap then setContDriven t high else high))

/-- One primitive effect on the wires, as the operation rules list them in order. -/
inductive Action where
  /-- `LineSet(L, b)`. -/
  | set (l : Line) (b : Level)
  /-- `LineDir(L, d)`; `SwdOut()` is `dir swdioTms true`, `SwdIn()` is `dir swdioTms false` (R119). -/
  | dir (l : Line) (d : Bool)
  /-- `LinesEnable()`, `LinesDisable()`. -/
  | enable (e : Bool)
  /-- `JCycle(tms, tdi, cap)`; `none` drives the continuation bit. -/
  | jtag (tms : Level) (tdi : Option Level) (cap : Bool)
  /-- `SCycleOut(b)`; `none` drives the continuation bit (R146). -/
  | swdOut (b : Option Level)
  /-- `SCycleIn(cap)`. -/
  | swdIn (cap : Bool)
  deriving DecidableEq, Repr

/-- A sampled level is kept when the cycle is captured. -/
def kept (cap : Bool) (t : Level) : List Level := if cap then [t] else []

/-- One action: the state after it and the levels it captures, none or one. -/
def runAction (a : Action) (s : State) : State × List Level :=
  match a with
  | .set l b => (lineSet l b s, [])
  | .dir l d => (lineDir l d s, [])
  | .enable e => (linesEnable e s, [])
  | .jtag tms tdi cap => ((jCycle tms tdi cap s).2, kept cap (jCycle tms tdi cap s).1)
  | .swdOut b => (sCycleOut (b.getD (contDrivenBit s)) s, [])
  | .swdIn cap => ((sCycleIn cap s).2, kept cap (sCycleIn cap s).1)

/-- Actions in order (20_memory.md R70): the state after the last and every captured level, first first. -/
def runActions : List Action → State → State × List Level
  | [], s => (s, [])
  | a :: as, s =>
    let r := runAction a s
    let q := runActions as r.1
    (q.1, r.2 ++ q.2)

/-- Store a capture in `RXBUF` from byte 0 on (R61, R62). -/
def storeCapture (bits : List Level) (s : State) : State :=
  { s with
    rxbuf := Mem.writeBytes s.rxbuf 0 (packBytes bits)
    written := { s.written with rxBytes := byteCount bits.length } }

/-- `ACK <- a` (R41). -/
def writeAck (a : BitVec 3) (s : State) : State :=
  { s with ack := some a, written := { s.written with ack := true } }

/-- `PERR <- e` (R41). -/
def writePerr (e : Bool) (s : State) : State :=
  { s with perr := some e, written := { s.written with perr := true } }

/-- `OK <- k` (R41). -/
def writeOk (k : Bool) (s : State) : State :=
  { s with ok := some k, written := { s.written with ok := true } }

/-- `RDATA <- v` (R41). -/
def writeRdata (v : Word) (s : State) : State :=
  { s with rdata := some v, written := { s.written with rdata := true } }

/-- `RBIT <- b` (R41). -/
def writeRbit (b : Level) (s : State) : State :=
  { s with rbit := some b, written := { s.written with rbit := true } }

/-- The labels of the sequencer phase inside one operation (R44, 42_jtag_tap.md R203, 43_swd.md R243). They are
informative: no state holds one (log 17). -/
inductive Phase where
  | preamble
  | select
  | fillBefore
  | request
  | payload
  | fillAfter
  | exit
  | update
  | idle
  | idleCycles
  | park
  | sendRequest
  | turnaroundIn
  | readAck
  | dataRead
  | dataWrite
  | errorRecovery
  | turnaroundOut
  deriving DecidableEq, Repr

/-- A part of an operation: its actions by phase, in order. -/
abbrev Phased := List (Phase × List Action)

/-- The actions of a phased sequence, in order. -/
def Phased.actions (p : Phased) : List Action := p.flatMap Prod.snd

/-- Run a phased sequence. -/
def runPhased (p : Phased) (s : State) : State × List Level := runActions p.actions s

/-- Refusal conditions are examined before anything else (60_exceptions.md R299 (a)): the first that holds is
the reason, and if none holds the operation runs. -/
def unlessRefused (checks : List (Option Refusal)) (run : Host.Outcome State Fault Refusal) :
    Host.Outcome State Fault Refusal :=
  match checks.findSome? id with
  | some r => .refused r
  | none => run

/-- The ready flag of the hardware shift engine never comes (R161, R334, U7). -/
def engineStuck (s : State) : Bool := s.params.backend == .hardware && !s.engineReady

/-- An operation that clocks at least one cycle waits for the engine with the hardware backend (R334): where the
flag never comes it never returns. -/
def unlessStuck (s : State) (run : Host.Outcome State Fault Refusal) : Host.Outcome State Fault Refusal :=
  if engineStuck s then .fault .engineNeverReady else run

end Sys2Proof.Machine
end

