-- ==== Sys2Proof/Machine/Operands.lean ====
section
/-! DEFINITION. Computed operands (30_encoding.md R81 to R84, R97; 42_jtag_tap.md R174) and the conditions under
which an operation is refused (R98, R172, R249, U3 to U6). -/

namespace Sys2Proof.Machine

/-- `seqCount(info)` (R83): `info[5:0]`, 0 means 64. -/
def seqCount (info : Byte) : Nat :=
  if info.extractLsb' 0 6 = 0 then Config.seqMax else (info.extractLsb' 0 6).toNat

/-- `info[6]`, the held TMS level of `JTAG_SEQUENCE` (R81). -/
def infoTms (info : Byte) : Level := info.getLsbD 6

/-- `info[7]`: capture of `JTAG_SEQUENCE` (R81), input direction of `SWD_SEQUENCE` (R82). -/
def infoCapture (info : Byte) : Bool := info.getLsbD 7

/-- `APnDP = request[0]` (R84). -/
def reqAPnDP (request : Byte) : Level := request.getLsbD 0

/-- `RnW = request[1]` (R84). -/
def reqRnW (request : Byte) : Level := request.getLsbD 1

/-- `A2 = request[2]` (R84). -/
def reqA2 (request : Byte) : Level := request.getLsbD 2

/-- `A3 = request[3]` (R84). -/
def reqA3 (request : Byte) : Level := request.getLsbD 3

/-- `T = cfg.swd.turnaroundCycles` as a number (R34). -/
def Turnaround.cycles : Turnaround → Nat
  | .one => 1
  | .two => 2
  | .three => 3
  | .four => 4

/-- `T` of the running operation. -/
def turnCycles (s : State) : Nat := Turnaround.cycles s.operands.cfg.swd.turnaroundCycles

/-- `I = cfg.idleCycles` of the running operation (R36). -/
def idleCount (s : State) : Nat := s.operands.cfg.idleCycles.toNat

/-- `count = COUNT` of the running operation (R97). -/
def countOperand (s : State) : Nat := s.operands.count.toNat

/-- The first `n` bits of `TXBUF` (R60). -/
def txBits (n : Nat) (s : State) : List Level := bufferBits s.operands.txbuf n

/-- `idx = cfg.chain.deviceIndex`: data-register filler bits before the payload (R174). -/
def fillersBefore (c : ChainPosition) : Nat := c.deviceIndex.toNat

/-- `after = cnt - idx - 1`: data-register filler bits after the payload (R174); the guard of R172 (b) keeps the
difference from underflowing. -/
def fillersAfter (c : ChainPosition) : Nat := c.deviceCount.toNat - c.deviceIndex.toNat - 1

/-- `cfg.chain.irLengthPerDevice[cfg.chain.deviceIndex]`, where the descriptor has that entry (R183). -/
def targetIrLength (c : ChainPosition) : Option Nat :=
  match c.irLengthPerDevice[c.deviceIndex.toNat]? with
  | some l => some l.toNat
  | none => none

/-- `L` of `JTAG_IR` (R183); `irLengthCheck` refuses before it is used where there is none. -/
def irLength (s : State) : Nat := (targetIrLength s.operands.cfg.chain).getD 0

/-- R98: refused unless the mode is `JTAG`. -/
def needsJtag (s : State) : Option Refusal := if s.mode = .jtag then none else some .wrongMode

/-- R98: refused unless the mode is `SWD`. -/
def needsSwd (s : State) : Option Refusal := if s.mode = .swd then none else some .wrongMode

/-- R98: refused while `Disabled`. -/
def needsActiveMode (s : State) : Option Refusal := if s.mode = .disabled then some .wrongMode else none

/-- R146, R270: refused when `COUNT > MAX_COUNT`. -/
def countCheck (s : State) : Option Refusal :=
  if countOperand s ≤ s.params.maxCount then none else some .countTooLarge

/-- R172 (d): refused unless `1 <= COUNT <= MAX_COUNT`. -/
def bitCountCheck (s : State) : Option Refusal :=
  if 1 ≤ countOperand s ∧ countOperand s ≤ s.params.maxCount then none else some .bitCountOutOfRange

/-- R146, R155, R157, R172 (d), R270, U5: refused when `TXBUF` holds fewer than `ceil(n/8)` bytes. -/
def bufferCheck (n : Nat) (s : State) : Option Refusal :=
  if byteCount n ≤ s.operands.txbuf.length then none else some .bufferTooShort

/-- R172 (b): `1 <= deviceCount <= MAX_DEVICES` and `deviceIndex < deviceCount`. -/
def chainCheck (s : State) : Option Refusal :=
  let c := s.operands.cfg.chain
  if 1 ≤ c.deviceCount.toNat ∧ c.deviceCount.toNat ≤ s.params.maxDevices ∧
      c.deviceIndex.toNat < c.deviceCount.toNat then none
  else some .chainOutOfRange

/-- R172 (c): `1 <= irLengthPerDevice[deviceIndex] <= IR_MAX`. -/
def irLengthCheck (s : State) : Option Refusal :=
  match targetIrLength s.operands.cfg.chain with
  | some l => if 1 ≤ l ∧ l ≤ Config.irMax then none else some .irLengthOutOfRange
  | none => some .irLengthOutOfRange

/-- R37, R172 (e), R249: refused when a timestamp is asked for. -/
def timestampCheck (s : State) : Option Refusal :=
  if s.operands.cfg.timestampRequest then some .timestampRequested else none

end Sys2Proof.Machine
end

