-- ==== Sys2Proof/Machine/Flags.lean ====
section
/-! DEFINITION. What the block computes for its outcomes (45_common_laws.md R280 (a), (b), (f)): parity, the SWD
request packet, the acknowledge decode and the JTAG acknowledge remap. The block has no condition codes (R43);
`ACK`, `PERR` and `OK` are results. -/

namespace Sys2Proof.Machine

/-- The exclusive or of a list of bits. -/
def xorBits (bits : List Level) : Level := bits.foldl Bool.xor false

/-- `parity32(v)` (R220). -/
def parity32 (v : Word) : Level := xorBits (wordBits v 32)

/-- `parity4(h)` (R220). -/
def parity4 (h : BitVec 4) : Level := xorBits (wordBits h 4)

/-- `P = parity4(request[3:0])` (R222). -/
def headerParity (request : Byte) : Level := parity4 (request.extractLsb' 0 4)

/-- The eight levels of the request packet, in order (R85, R222). -/
def packetBits (request : Byte) : List Level :=
  [true, reqAPnDP request, reqRnW request, reqA2 request, reqA3 request, headerParity request, false, true]

/-- `AckCode` of SWD (R42, R86). -/
inductive SwdAck where
  | ok
  | wait
  | fault
  | protocolError
  deriving DecidableEq, Repr

/-- The four-way decode of the sampled acknowledge (R86, R231). -/
def swdAck (a : BitVec 3) : SwdAck :=
  if a = 0b001#3 then .ok
  else if a = 0b010#3 then .wait
  else if a = 0b100#3 then .fault
  else .protocolError

/-- The read-parity check (R236): true on a mismatch. -/
def parityMismatch (v : Word) (p : Level) : Bool := p != parity32 v

/-- The 33 bits of a write data phase (R87, R234). -/
def writeDataBits (v : Word) : List Level := wordBits v 32 ++ [parity32 v]

/-- The corrected JTAG acknowledge (R90, R194): `((w & 2) >> 1) | ((w & 1) << 1) | (w & 4)`. -/
def jtagAckRemap (w : BitVec 3) : BitVec 3 :=
  ((w &&& 2#3) >>> 1) ||| ((w &&& 1#3) <<< 1) ||| (w &&& 4#3)

/-- `AckCode` of JTAG (R42, R90). -/
inductive JtagAck where
  | ok
  | error
  deriving DecidableEq, Repr

/-- `ack = 0b001` is Ok, every other value is Error (R90). -/
def jtagAck (ack : BitVec 3) : JtagAck := if ack = 0b001#3 then .ok else .error

end Sys2Proof.Machine
end

