-- ==== Sys2Proof/Machine/Tap.lean ====
section
/-! DEFINITION. The TMS patterns, the TMS sequence generator and the shift helpers of the JTAG TAP Controller
(42_jtag_tap.md R171, R176 to R179). -/

namespace Sys2Proof.Machine

/-- `ToShiftDR` (R171). -/
def toShiftDR : List Level := [true, false, false]

/-- `ToShiftIR` (R171). -/
def toShiftIR : List Level := [true, true, false, false]

/-- `ResetPreamble` (R171). -/
def resetPreamble : List Level := [true, true, true, true, true, false]

/-- `Walk(p)` (R177): TDI carries the continuation bit, nothing is captured. -/
def walk (p : List Level) : List Action := p.map fun m => .jtag m none false

/-- `n` filler cycles with TMS = 0 (R175). -/
def fillers (n : Nat) (fill : Option Level) : List Action := List.replicate n (.jtag false fill false)

/-- Payload cycles with TMS = 0. -/
def payloadCycles (bits : List (Option Level)) (cap : Bool) : List Action :=
  bits.map fun b => .jtag false b cap

/-- `ShiftBody` (R178) from its payload on: the data phase of a transfer, whose leading filler was shifted before the
request bits (R196, R203). The exit cycle is the last filler cycle, or the last payload cycle when there is none. -/
def shiftPayload (payload : List (Option Level)) (cap : Bool) (na : Nat) (fa : Option Level) : Phased :=
  if 0 < na then
    [(.payload, payloadCycles payload cap), (.fillAfter, fillers (na - 1) fa), (.exit, [.jtag true fa false])]
  else
    [(.payload, payloadCycles payload.dropLast cap), (.fillAfter, []),
      (.exit, [.jtag true (payload.getLastD none) cap])]

/-- `ShiftBody(n, out, cap, nb, fb, na, fa)` (R178): `payload` is the `n >= 1` levels of `out`, `none` for the
continuation bit. -/
def shiftBody (payload : List (Option Level)) (cap : Bool) (nb : Nat) (fb : Option Level) (na : Nat)
    (fa : Option Level) : Phased :=
  (.fillBefore, fillers nb fb) :: shiftPayload payload cap na fa

/-- `Tail(I, park)` (R179). -/
def tail (idle : Nat) (park : Bool) : Phased :=
  [(.update, [.jtag true none false]), (.idle, [.jtag false none false]), (.idleCycles, fillers idle none),
    (.park, if park then [.set .tdi true] else [])]

/-- `TmsSeq(count, data)` (R176): one cycle per bit of `data`, the bit on TMS. -/
def tmsSeq (bits : List Level) : List Action := walk bits

/-- The levels of `DATA`, driven bit 0 first (R63). -/
def drivenBits (bits : List Level) : List (Option Level) := bits.map some

/-- `n` payload cycles that drive the continuation bit. -/
def undrivenBits (n : Nat) : List (Option Level) := List.replicate n none

end Sys2Proof.Machine
end

