-- ==== Sys2Proof/Machine/BitSequence.lean ====
section
/-! DEFINITION. The Bit-Sequence Engine (41_bit_sequence_engine.md): the `clockSequence` contract (R146) and the
raw sequence operations built on it (R155, R157). -/

namespace Sys2Proof.Machine

/-- The drive levels of an `n`-cycle sequence: the bits of `outData`, or the continuation bit where there is
none (R146, R147). -/
def driveLevels (n : Nat) (out : Option (List Level)) : List (Option Level) :=
  match out with
  | some bits => bits.map some
  | none => List.replicate n none

/-- The cycles of `clockSequence` in JTAG mode (R146). -/
def clockJtagActions (n : Nat) (held : Level) (cap : Bool) (out : Option (List Level)) : List Action :=
  (driveLevels n out).map fun d => .jtag held d cap

/-- The actions of `clockSequence` in SWD mode (R146, R153): the line is released and sampled, or driven. -/
def clockSwdActions (n : Nat) (cap : Bool) (out : Option (List Level)) : List Action :=
  if cap then .dir .swdioTms false :: List.replicate n (.swdIn true)
  else .dir .swdioTms true :: (driveLevels n out).map fun d => .swdOut d

/-- The actions of `clockSequence` in the active mode. -/
def clockActions (m : Mode) (n : Nat) (held : Level) (cap : Bool) (out : Option (List Level)) : List Action :=
  match m with
  | .jtag => clockJtagActions n held cap out
  | .swd => clockSwdActions n cap out
  | .disabled => []

/-- The last line of the SWD pseudocode of R146 (R148): `held` is stored, no pin shows it. -/
def recordHeld (held : Level) (s : State) : State :=
  match s.mode with
  | .swd => setContModeSelect held s
  | .jtag => s
  | .disabled => s

/-- `clockSequence(count, held, cap, out, in)` (R146); a count of 0 is a no-op (R154). `out` holds the `n` drive
bits where `outData` is present. -/
def clockSequence (n : Nat) (held : Level) (cap : Bool) (out : Option (List Level)) (s : State) : State :=
  if n = 0 then s
  else
    let r := runActions (clockActions s.mode n held cap out) s
    recordHeld held (if cap then storeCapture r.2 r.1 else r.1)

/-- `CLOCK_SEQUENCE` (R146); a count of 0 is a no-op (R154), with no wait for the engine. -/
def execClockSequence (cap held outPresent : Bool) (s : State) : Host.Outcome State Fault Refusal :=
  unlessRefused
    [needsActiveMode s, countCheck s, if outPresent then bufferCheck (countOperand s) s else none]
    (if countOperand s = 0 then .next s
    else unlessStuck s (.next (clockSequence (countOperand s) held cap
      (if outPresent then some (txBits (countOperand s) s) else none) s)))

/-- `JTAG_SEQUENCE` (R155). -/
def execJtagSequence (info : Byte) (s : State) : Host.Outcome State Fault Refusal :=
  unlessRefused [needsJtag s, bufferCheck (seqCount info) s]
    (unlessStuck s (.next (clockSequence (seqCount info) (infoTms info) (infoCapture info)
      (some (txBits (seqCount info) s)) s)))

/-- `SWD_SEQUENCE` (R157): the held level is passed back unchanged. -/
def execSwdSequence (info : Byte) (s : State) : Host.Outcome State Fault Refusal :=
  unlessRefused [needsSwd s, if infoCapture info then none else bufferCheck (seqCount info) s]
    (unlessStuck s (.next (clockSequence (seqCount info) (contModeSelect s) (infoCapture info)
      (if infoCapture info then none else some (txBits (seqCount info) s)) s)))

end Sys2Proof.Machine
end

