-- ==== Sys2Proof/Machine/Jtag.lean ====
section
/-! DEFINITION. The JTAG TAP Controller (42_jtag_tap.md): IDCODE read, instruction and data register shifts, the
register transfer and the abort write. -/

namespace Sys2Proof.Machine

/-- The cycles of `JTAG_READ_IDCODE` (R180 to R182). -/
def idcodePhases (fromReset : Bool) (c : ChainPosition) : Phased :=
  [(.preamble, if fromReset then walk resetPreamble else []), (.select, walk toShiftDR)] ++
    shiftBody (undrivenBits 32) true (fillersBefore c) none 0 none ++ tail 0 false

/-- What `JTAG_READ_IDCODE` does (R180): the 32 samples become `RDATA`. -/
def jtagReadIdcode (s : State) : State :=
  let r := runPhased (idcodePhases s.params.idcodeFromReset s.operands.cfg.chain) s
  writeRdata (wordOfBits 32 r.2) r.1

/-- `JTAG_READ_IDCODE` (R180). -/
def execJtagReadIdcode (s : State) : Host.Outcome State Fault Refusal :=
  unlessRefused [needsJtag s, chainCheck s] (unlessStuck s (.next (jtagReadIdcode s)))

/-- The cycles of `JTAG_IR` (R183, R184): IR filler bits are 1 (R175). -/
def irPhases (ir : Word) (len : Nat) (c : ChainPosition) : Phased :=
  [(.select, walk toShiftIR)] ++
    shiftBody (drivenBits (wordBits ir len)) true c.irBeforeBits.toNat (some true) c.irAfterBits.toNat (some true) ++
    tail 0 true

/-- What `JTAG_IR` does (R183): the samples of the payload cycles become `RDATA`, zero above. -/
def jtagIr (s : State) : State :=
  let r := runPhased (irPhases s.operands.data (irLength s) s.operands.cfg.chain) s
  writeRdata (wordOfBits 32 r.2) r.1

/-- `JTAG_IR` (R183). -/
def execJtagIr (s : State) : Host.Outcome State Fault Refusal :=
  unlessRefused [needsJtag s, chainCheck s, irLengthCheck s] (unlessStuck s (.next (jtagIr s)))

/-- The cycles of `JTAG_DR` (R188): DR filler bits carry the continuation bit (R175). -/
def drPhases (bits : List Level) (c : ChainPosition) : Phased :=
  [(.select, walk toShiftDR)] ++
    shiftBody (drivenBits bits) true (fillersBefore c) none (fillersAfter c) none ++ tail 0 true

/-- What `JTAG_DR` does (R188): the samples of the payload cycles go to `RXBUF`. -/
def jtagDr (s : State) : State :=
  let r := runPhased (drPhases (txBits (countOperand s) s) s.operands.cfg.chain) s
  storeCapture r.2 r.1

/-- `JTAG_DR` (R188). -/
def execJtagDr (s : State) : Host.Outcome State Fault Refusal :=
  unlessRefused [needsJtag s, chainCheck s, bitCountCheck s, bufferCheck (countOperand s) s]
    (unlessStuck s (.next (jtagDr s)))

/-- The first half of a transfer: to Shift-DR, the leading filler, the three request bits (R192, R193). -/
def transferRequest (request : Byte) (c : ChainPosition) : Phased :=
  [(.select, walk toShiftDR), (.fillBefore, fillers (fillersBefore c) none),
    (.request, [.jtag false (some (reqRnW request)) true, .jtag false (some (reqA2 request)) true,
      .jtag false (some (reqA3 request)) true])]

/-- The data phase of a read (R196), with `nb = 0` in R192's `ShiftBody`: no second `FillBefore` (R203). -/
def transferRead (c : ChainPosition) : Phased :=
  shiftPayload (undrivenBits 32) true (fillersAfter c) none

/-- The data phase of a write (R197), likewise. -/
def transferWrite (data : Word) (c : ChainPosition) : Phased :=
  shiftPayload (drivenBits (wordBits data 32)) false (fillersAfter c) none

/-- The early abort: one TMS = 1 cycle (R195). -/
def transferAbort : Phased := [(.exit, [.jtag true none false])]

/-- The transfer ends after the acknowledge (R192, R195). -/
def abortsEarly (checkAck : Bool) (ack : BitVec 3) : Bool := checkAck && decide (jtagAck ack = .error)

/-- The second half of a transfer, after the acknowledge (R192, R198). -/
def transferRest (abort : Bool) (request : Byte) (data : Word) (idle : Nat) (c : ChainPosition) : Phased :=
  (if abort then transferAbort else if reqRnW request then transferRead c else transferWrite data c) ++
    tail idle true

/-- What `JTAG_TRANSFER` does (R192 to R199): `ACK` is the corrected acknowledge; `RDATA` is written only on a
completed read. -/
def jtagTransfer (request : Byte) (checkAck : Bool) (s : State) : State :=
  let c := s.operands.cfg.chain
  let r := runPhased (transferRequest request c) s
  let ack := jtagAckRemap (wordOfBits 3 r.2)
  let abort := abortsEarly checkAck ack
  let q := runPhased (transferRest abort request s.operands.data (idleCount s) c) r.1
  writeAck ack (if !abort && reqRnW request then writeRdata (wordOfBits 32 q.2) q.1 else q.1)

/-- `JTAG_TRANSFER` (R192). -/
def execJtagTransfer (request : Byte) (checkAck : Bool) (s : State) : Host.Outcome State Fault Refusal :=
  unlessRefused [needsJtag s, chainCheck s, timestampCheck s]
    (unlessStuck s (.next (jtagTransfer request checkAck s)))

/-- The cycles of `JTAG_WRITE_ABORT` (R200): a transfer with request 0, whose samples go nowhere. -/
def writeAbortPhases (data : Word) (idle : Nat) (c : ChainPosition) : Phased :=
  transferRequest 0 c ++ transferWrite data c ++ tail idle true

/-- What `JTAG_WRITE_ABORT` does (R200): no result is written. -/
def jtagWriteAbort (s : State) : State :=
  (runPhased (writeAbortPhases s.operands.data (idleCount s) s.operands.cfg.chain) s).1

/-- `JTAG_WRITE_ABORT` (R200). -/
def execJtagWriteAbort (s : State) : Host.Outcome State Fault Refusal :=
  unlessRefused [needsJtag s, chainCheck s, timestampCheck s] (unlessStuck s (.next (jtagWriteAbort s)))

end Sys2Proof.Machine
end

