-- ==== Sys2Proof/Machine/Pins.lean ====
section
/-! DEFINITION. The pin accessors (40_line_driver.md R120 to R133), performed in every mode (30_encoding.md R98).
Each is one Line Driver primitive and always completes (R134). -/

namespace Sys2Proof.Machine

/-- `RBIT <- LineGet(L)`. -/
def pinRead (l : Line) (s : State) : State := writeRbit (lineGet l s).1 (lineGet l s).2

/-- `PIN_SWCLK_TCK_SET` (R120). -/
def execPinSwclkTckSet (s : State) : Host.Outcome State Fault Refusal := .next (lineSet .swclkTck true s)

/-- `PIN_SWCLK_TCK_CLR` (R121). -/
def execPinSwclkTckClr (s : State) : Host.Outcome State Fault Refusal := .next (lineSet .swclkTck false s)

/-- `PIN_SWDIO_OUT(b)` (R122); `A[7:1]` is ignored (R99). -/
def execPinSwdioOut (level : Bool) (_ignored : BitVec 7) (s : State) : Host.Outcome State Fault Refusal :=
  .next (lineSet .swdioTms level s)

/-- `PIN_SWDIO_OUT_ENABLE` (R123). -/
def execPinSwdioOutEnable (s : State) : Host.Outcome State Fault Refusal := .next (lineDir .swdioTms true s)

/-- `PIN_SWDIO_OUT_DISABLE` (R124). -/
def execPinSwdioOutDisable (s : State) : Host.Outcome State Fault Refusal := .next (lineDir .swdioTms false s)

/-- `PIN_TDI_OUT(b)` (R125); `A[7:1]` is ignored (R99). -/
def execPinTdiOut (level : Bool) (_ignored : BitVec 7) (s : State) : Host.Outcome State Fault Refusal :=
  .next (lineSet .tdi level s)

/-- `PIN_TDO_IN` (R126). -/
def execPinTdoIn (s : State) : Host.Outcome State Fault Refusal := .next (pinRead .tdo s)

/-- `PIN_nRESET_OUT(b)` (R127); `A[7:1]` is ignored (R99). -/
def execPinNResetOut (level : Bool) (_ignored : BitVec 7) (s : State) : Host.Outcome State Fault Refusal :=
  .next (lineSet .nReset level s)

/-- `PIN_SWDIO_TMS_SET` (R128). -/
def execPinSwdioTmsSet (s : State) : Host.Outcome State Fault Refusal := .next (lineSet .swdioTms true s)

/-- `PIN_SWDIO_TMS_CLR` (R129). -/
def execPinSwdioTmsClr (s : State) : Host.Outcome State Fault Refusal := .next (lineSet .swdioTms false s)

/-- `PIN_SWDIO_IN` (R130). -/
def execPinSwdioIn (s : State) : Host.Outcome State Fault Refusal := .next (pinRead .swdioTms s)

/-- `PIN_SWCLK_TCK_IN` (R131). -/
def execPinSwclkTckIn (s : State) : Host.Outcome State Fault Refusal := .next (pinRead .swclkTck s)

/-- `PIN_TDI_IN` (R132). -/
def execPinTdiIn (s : State) : Host.Outcome State Fault Refusal := .next (pinRead .tdi s)

/-- `PIN_nRESET_IN` (R133). -/
def execPinNResetIn (s : State) : Host.Outcome State Fault Refusal := .next (pinRead .nReset s)

end Sys2Proof.Machine
end

