-- ==== Sys2Proof/Machine/Swd.lean ====
section
/-! DEFINITION. The SWD Transaction Engine's transfer (43_swd.md R228 to R242), by the phases of R243. -/

namespace Sys2Proof.Machine

/-- `SwdOut()` (R119). -/
def swdDrive : Action := .dir .swdioTms true

/-- `SwdIn()` (R119). -/
def swdRelease : Action := .dir .swdioTms false

/-- `n` released cycles whose level is not recorded. -/
def releasedCycles (n : Nat) : List Action := List.replicate n (.swdIn false)

/-- `n` released cycles whose level is recorded. -/
def recordedCycles (n : Nat) : List Action := List.replicate n (.swdIn true)

/-- Driven cycles with the levels given. -/
def drivenCycles (bits : List Level) : List Action := bits.map fun b => .swdOut (some b)

/-- From the start to the acknowledge: steps 1 to 4 of R228 (R229 to R231). -/
def swdRequestPhases (request : Byte) (turn : Nat) : Phased :=
  [(.sendRequest, swdDrive :: drivenCycles (packetBits request)),
    (.turnaroundIn, swdRelease :: releasedCycles turn),
    (.readAck, recordedCycles 3)]

/-- The idle cycles after an Ok transaction: driven at 0 (R235). -/
def swdIdle (idle : Nat) : List Action := drivenCycles (List.replicate idle false)

/-- The park: SWDIO driven high with no clock (R241). -/
def swdPark : Phased := [(.park, [.set .swdioTms true])]

/-- Ok, read (R232, R233, R235). -/
def swdReadPhases (turn idle : Nat) : Phased :=
  [(.dataRead, recordedCycles 33), (.turnaroundOut, releasedCycles turn ++ [swdDrive]),
    (.idleCycles, swdIdle idle)] ++ swdPark

/-- Ok, write (R234, R235). -/
def swdWritePhases (data : Word) (turn idle : Nat) : Phased :=
  [(.turnaroundOut, releasedCycles turn ++ [swdDrive]), (.dataWrite, drivenCycles (writeDataBits data)),
    (.idleCycles, swdIdle idle)] ++ swdPark

/-- Wait and Fault (R238, R239): `d` is `dataPhaseOnError`. -/
def swdRecoveryPhases (rnw d : Bool) (turn : Nat) : Phased :=
  [(.errorRecovery,
      releasedCycles (turn + (if d && rnw then 33 else 0)) ++ [swdDrive] ++
        (if d && !rnw then drivenCycles (List.replicate 33 false) else []))] ++ swdPark

/-- ProtocolError (R240). -/
def swdResyncPhases (turn : Nat) : Phased :=
  [(.errorRecovery, releasedCycles (turn + 33) ++ [swdDrive])] ++ swdPark

/-- What follows the acknowledge (R228 steps 5 to 9). -/
def swdRestPhases (ack : SwdAck) (rnw d : Bool) (data : Word) (turn idle : Nat) : Phased :=
  match ack with
  | .ok => if rnw then swdReadPhases turn idle else swdWritePhases data turn idle
  | .wait => swdRecoveryPhases rnw d turn
  | .fault => swdRecoveryPhases rnw d turn
  | .protocolError => swdResyncPhases turn

/-- `v` of R228: the first 32 of the 33 samples of the read data phase (R232). -/
def readWord (samples : List Level) : Word := wordOfBits 32 (samples.take 32)

/-- `p` of R228: the 33rd sample (R232). -/
def readParity (samples : List Level) : Level := samples.getD 32 false

/-- `PERR` (R236): a mismatch on an Ok read, else 0. -/
def readParityError (samples : List Level) : Bool := parityMismatch (readWord samples) (readParity samples)

/-- What `SWD_TRANSFER` does (R228): `ACK` is the sampled acknowledge but for a read-parity mismatch (R236, R237);
`RDATA` is written only on an Ok read. -/
def swdTransfer (request : Byte) (s : State) : State :=
  let rnw := reqRnW request
  let r := runPhased (swdRequestPhases request (turnCycles s)) s
  let a := wordOfBits 3 r.2
  let okRead := decide (swdAck a = .ok) && rnw
  let q := runPhased
    (swdRestPhases (swdAck a) rnw s.operands.cfg.swd.dataPhaseOnError s.operands.data (turnCycles s) (idleCount s))
    r.1
  let perr := okRead && readParityError q.2
  writeAck (if perr then 0b100#3 else a)
    (writePerr perr (if okRead then writeRdata (readWord q.2) q.1 else q.1))

/-- `SWD_TRANSFER` (R228). -/
def execSwdTransfer (request : Byte) (s : State) : Host.Outcome State Fault Refusal :=
  unlessRefused [needsSwd s, timestampCheck s] (unlessStuck s (.next (swdTransfer request s)))

end Sys2Proof.Machine
end

