-- ==== Sys2Proof/Machine/Transport.lean ====
section
/-! DEFINITION. The Transport Selector (44_transport_selector.md): tear-down, the three mode operations and the
SWJ dispatch. -/

namespace Sys2Proof.Machine

/-- `if S.shiftOwner = JTAG or S.shiftOwner = SWD then S.shiftOwner <- None` (R261). -/
def releasedOwner : Owner → Owner
  | .free => .free
  | .jtag => .free
  | .swd => .free
  | .trace => .trace

/-- The six events of a tear-down, in order (R261). -/
def tearDownActions : List Action :=
  [.dir .swclkTck false, .dir .swdioTms false, .dir .tdi false, .dir .tdo false, .dir .nReset false,
    .enable false]

/-- `TearDown()` (R261). -/
def tearDown (s : State) : State :=
  (runActions tearDownActions
    { s with mode := .disabled, cont := none, shiftOwner := releasedOwner s.shiftOwner, src := .latch }).1

/-- The line writes of a successful JTAG set-up (R263). -/
def jtagSetupActions : List Action :=
  [.set .swclkTck true, .set .swdioTms true, .set .tdi true, .set .nReset true,
    .dir .swclkTck true, .dir .swdioTms true, .dir .tdi true, .dir .tdo false, .dir .nReset true,
    .enable true]

/-- The line writes of a successful SWD set-up (R264). -/
def swdSetupActions : List Action :=
  [.set .swclkTck true, .set .swdioTms true, .set .nReset true,
    .dir .swclkTck true, .dir .swdioTms true, .dir .tdi false, .dir .tdo false, .dir .nReset true,
    .enable true]

/-- The shift engine is not available to this set-up (R262). -/
def engineTaken (s : State) : Bool := s.params.backend == .hardware && s.operands.trace

/-- With `BACKEND = Hardware` the shift engine is claimed and drives the pins (R263, R264). -/
def claimEngine (owner : Owner) (s : State) : State :=
  match s.params.backend with
  | .hardware => { s with shiftOwner := owner, src := .shifter }
  | .software => s

/-- `S.slew <- SLEW; S.mode <- m; S.cont <- {1, 1}` (R263, R264). -/
def enterMode (m : Mode) (s : State) : State :=
  { s with slew := s.params.slew, mode := m, cont := some { lastDrivenBit := true, lastModeSelectLevel := true } }

/-- A port set-up (R262 to R264): the mode, the owner it claims the engine for, and its line writes. -/
def portSetup (m : Mode) (owner : Owner) (lines : List Action) (s : State) : State :=
  let down := tearDown s
  if engineTaken s then writeOk false { down with shiftOwner := .trace }
  else writeOk true (runActions lines (enterMode m (claimEngine owner down))).1

/-- `PORT_OFF` (R265). -/
def execPortOff (s : State) : Host.Outcome State Fault Refusal := .next (tearDown s)

/-- `PORT_JTAG_SETUP` (R263). -/
def execPortJtagSetup (s : State) : Host.Outcome State Fault Refusal :=
  .next (portSetup .jtag .jtag jtagSetupActions s)

/-- `PORT_SWD_SETUP` (R264). -/
def execPortSwdSetup (s : State) : Host.Outcome State Fault Refusal :=
  .next (portSetup .swd .swd swdSetupActions s)

/-- The fallback of the SWJ dispatch with no active mode (R270, R272): three latch writes a bit. -/
def swjFallback (bits : List Level) : List Action :=
  bits.flatMap fun b => [.set .swdioTms b, .set .swclkTck false, .set .swclkTck true]

/-- `swjSequence(count, data)` of the SWD engine (43_swd.md R224). -/
def swdSwjActions (bits : List Level) : List Action :=
  .dir .swdioTms true :: bits.map fun b => .swdOut (some b)

/-- `swjSequenceDispatch(count, data)` (R270, R271): a count of 0 returns before the dispatch. -/
def swjActions (m : Mode) (bits : List Level) : List Action :=
  if bits = [] then []
  else
    match m with
    | .jtag => tmsSeq bits
    | .swd => swdSwjActions bits
    | .disabled => swjFallback bits

/-- `SWJ_SEQUENCE` (R270). Without an active mode, or for a count of 0, nothing is clocked (R271, R272), so there
is no wait for the engine (R334). -/
def execSwjSequence (s : State) : Host.Outcome State Fault Refusal :=
  unlessRefused [countCheck s, bufferCheck (countOperand s) s]
    (if countOperand s = 0 ∨ s.mode = .disabled then
      .next (runActions (swjActions s.mode (txBits (countOperand s) s)) s).1
    else unlessStuck s (.next (runActions (swjActions s.mode (txBits (countOperand s) s)) s).1))

end Sys2Proof.Machine
end

