-- ==== Sys2Proof/Machine/Dispatch.lean ====
section
/-! DEFINITION. One arm per operation (45_common_laws.md R287). -/

namespace Sys2Proof.Machine

def exec (i : Instr) (s : State) : Host.Outcome State Fault Refusal :=
  match i with
  | .portOff => Sys2Proof.Machine.execPortOff s
  | .portJtagSetup => Sys2Proof.Machine.execPortJtagSetup s
  | .portSwdSetup => Sys2Proof.Machine.execPortSwdSetup s
  | .clockSequence cap held outPresent => Sys2Proof.Machine.execClockSequence cap held outPresent s
  | .jtagSequence info => Sys2Proof.Machine.execJtagSequence info s
  | .swdSequence info => Sys2Proof.Machine.execSwdSequence info s
  | .swjSequence => Sys2Proof.Machine.execSwjSequence s
  | .jtagReadIdcode => Sys2Proof.Machine.execJtagReadIdcode s
  | .jtagIr => Sys2Proof.Machine.execJtagIr s
  | .jtagDr => Sys2Proof.Machine.execJtagDr s
  | .jtagTransfer request checkAck => Sys2Proof.Machine.execJtagTransfer request checkAck s
  | .jtagWriteAbort => Sys2Proof.Machine.execJtagWriteAbort s
  | .swdTransfer request => Sys2Proof.Machine.execSwdTransfer request s
  | .pinSwclkTckSet => Sys2Proof.Machine.execPinSwclkTckSet s
  | .pinSwclkTckClr => Sys2Proof.Machine.execPinSwclkTckClr s
  | .pinSwdioOut level ignored => Sys2Proof.Machine.execPinSwdioOut level ignored s
  | .pinSwdioOutEnable => Sys2Proof.Machine.execPinSwdioOutEnable s
  | .pinSwdioOutDisable => Sys2Proof.Machine.execPinSwdioOutDisable s
  | .pinTdiOut level ignored => Sys2Proof.Machine.execPinTdiOut level ignored s
  | .pinTdoIn => Sys2Proof.Machine.execPinTdoIn s
  | .pinNResetOut level ignored => Sys2Proof.Machine.execPinNResetOut level ignored s
  | .pinSwdioTmsSet => Sys2Proof.Machine.execPinSwdioTmsSet s
  | .pinSwdioTmsClr => Sys2Proof.Machine.execPinSwdioTmsClr s
  | .pinSwdioIn => Sys2Proof.Machine.execPinSwdioIn s
  | .pinSwclkTckIn => Sys2Proof.Machine.execPinSwclkTckIn s
  | .pinTdiIn => Sys2Proof.Machine.execPinTdiIn s
  | .pinNResetIn => Sys2Proof.Machine.execPinNResetIn s

end Sys2Proof.Machine
end

