-- ==== Sys2Proof/Machine/Fetch.lean ====
section
/-! DEFINITION. How the block takes its next operation. It fetches nothing itself (10_state.md R44, 20_memory.md
R73): the command processor issues commands, one at a time and in order (00_scope.md R7, R70), log 1. -/

namespace Sys2Proof.Machine

/-- What the command processor's next command is. -/
inductive Fetched where
  /-- No operation has been issued: the block does nothing (R321). -/
  | idle
  /-- An operation, and the state in which it runs: its command taken, its operands supplied (R32, R40, R68 (b)). -/
  | operation (i : Instr) (s : State)
  /-- A command word that names no operation (R99). -/
  | rejected (why : EncodingProblem)
  deriving DecidableEq, Repr

/-- The state in which a command's operation runs. The results of the operation before it cease to be valid here: they
are "valid until the next operation starts" (R41). -/
def takeCommand (c : Command) (rest : List Command) (s : State) : State :=
  { s with program := rest, operands := c.operands, engineReady := c.engineReady, written := Written.nothing }

/-- Decode the command word of the next command (R94, R99). -/
def fetch (s : State) : Fetched :=
  match s.program with
  | [] => .idle
  | c :: rest =>
    match decode c.word with
    | .ok i => .operation i (takeCommand c rest s)
    | .error e => .rejected e

/-- The command word `nbits` bits of an opcode-table word give; the bits above bit 31 are dropped. -/
def placedWord (nbits w : Nat) : Word := BitVec.ofNat 32 (w % 2 ^ nbits)

/-- The state in which the next command is the word `w` with the operands the state holds. -/
def placeCommand (s : State) (nbits w : Nat) : State :=
  { s with program := { word := placedWord nbits w, operands := s.operands, engineReady := s.engineReady } :: s.program }

end Sys2Proof.Machine
end

