-- ==== Sys2Proof/Machine/Step.lean ====
section
/-! DEFINITION. One step: the block performs the next operation the command processor has issued, whole (20_memory.md
R70, R71), or does nothing when none has been issued. -/

namespace Sys2Proof.Machine

/-- One step of the machine. -/
def step (s : State) : Host.Outcome State Fault Refusal :=
  match fetch s with
  | .idle => .next s
  | .operation i s' => exec i s'
  | .rejected e => .refused (.reservedEncoding e)

/-- `s` with the command word `w` (its `nbits` low bits) issued as the next operation, with the side operands `s`
holds. The command processor's own act (log 1). -/
def State.withFetchWord (s : State) (nbits w : Nat) : State := placeCommand s nbits w

end Sys2Proof.Machine
end

