-- ==== Sys2Proof/Machine/Backend.lean ====
section
/-! DEFINITION. The implementation seen from inside, as second designs to hold against the operations: the burst
split of the hardware backend (41_bit_sequence_engine.md R149, R160), one cycle of the software backend in either mode (R140,
R151), the bit reversal at the backend boundary (20_memory.md R65) and the delay fallback (R163). No operation
calls them: "a model therefore implements rule R146 only" (R150). -/

namespace Sys2Proof.Machine

/-- The bursts of a `count`-cycle request (R149): full ones of `m` cycles, then the rest. -/
def burstSizes (m count : Nat) : List Nat :=
  List.replicate (count / m) m ++ if count % m = 0 then [] else [count % m]

/-- The drive bits loaded for the burst of `n` cycles from cycle `start` on: those of `out`, "or, when `out = None`,
as many copies of `S.cont.lastDrivenBit` as the burst has cycles" (R149). -/
def burstBits (out : Option (List Level)) (start n : Nat) (s : State) : List Level :=
  match out with
  | some bits => (bits.drop start).take n
  | none => List.replicate n (contDrivenBit s)

/-- The cycles of one burst, with its drive bits loaded. -/
def burstActions (m : Mode) (held : Level) (cap : Bool) (bits : List Level) : List Action :=
  match m with
  | .jtag => bits.map fun b => .jtag held (some b) cap
  | .swd => if cap then bits.map fun _ => .swdIn true else bits.map fun b => .swdOut (some b)
  | .disabled => []

/-- The bursts in increasing order: the state after the last, and the samples reassembled (R149). -/
def runBursts (m : Mode) (held : Level) (cap : Bool) (out : Option (List Level)) :
    List Nat → Nat → State → State × List Level
  | [], _, s => (s, [])
  | n :: ns, start, s =>
    let r := runActions (burstActions m held cap (burstBits out start n s)) s
    let q := runBursts m held cap out ns (start + n) r.1
    (q.1, r.2 ++ q.2)

/-- The direction helper of the SWD form, called once before the first cycle (R153). -/
def burstDirection (m : Mode) (cap : Bool) : List Action :=
  match m with
  | .swd => [.dir .swdioTms (!cap)]
  | .jtag => []
  | .disabled => []

/-- `clockSequence` split into bursts of `m` cycles (R149). -/
def clockSequenceBursts (m n : Nat) (held : Level) (cap : Bool) (out : Option (List Level)) (s : State) : State :=
  if n = 0 then s
  else
    let s0 := (runActions (burstDirection s.mode cap) s).1
    let r := runBursts s.mode held cap out (burstSizes m n) 0 s0
    recordHeld held (if cap then storeCapture r.2 r.1 else r.1)

/-- One cycle in JTAG mode by Line Driver primitives on the latches, in the order of R140: the sampled level and
the state after. Its trace shows the latch writes, not a `Clk` event. -/
def softwareCycle (tms tdi : Level) (s : State) : Level × State :=
  let placed := lineSet .tdi tdi (lineSet .swdioTms tms s)
  let r := lineGet .tdo (lineSet .swclkTck false placed)
  (r.1, lineSet .swclkTck true r.2)

/-- One driven cycle in SWD mode by Line Driver primitives on the latches (R140, R142, R151). -/
def softwareDrivenCycle (b : Level) (s : State) : State :=
  lineSet .swclkTck true (lineSet .swclkTck false (lineSet .swdioTms b s))

/-- One released cycle in SWD mode by Line Driver primitives on the latches (R140, R143, R151): the sampled level and the
state after, the level made the continuation bit where it is recorded. -/
def softwareReleasedCycle (cap : Bool) (s : State) : Level × State :=
  let r := lineGet .swdioTms (lineSet .swclkTck false s)
  let high := lineSet .swclkTck true r.2
  (r.1, if cap then setContDriven r.1 high else high)

/-- The levels a backend drives that "moves each byte most significant bit first" (R65): `n` of them. -/
def backendDrives (given : List Byte) (n : Nat) : List Level :=
  (List.range n).map fun i => (given.getD (i / 8) 0).getLsbD (7 - i % 8)

/-- The bytes such a backend returns: sample `i` at bit `7 - i mod 8` of byte `i div 8` (R65). -/
def backendReturns (samples : List Level) : List Byte :=
  (List.range (byteCount samples.length)).map fun k =>
    wordOfBits 8 ((List.range 8).map fun j => samples.getD (8 * k + (7 - j)) false)

/-- The delay the software path uses (R163): a `delayTicks` of 0 is replaced by `DELAY_FALLBACK`. It sets only the
time between events. -/
def effectiveDelay (p : Params) (c : ClockTiming) : Nat :=
  if c.delayTicks = 0 then p.delayFallback else c.delayTicks.toNat

end Sys2Proof.Machine
end

