-- ==== Sys2Proof/Machine/Reference.lean ====
section
/-! DEFINITION. The TAP state diagram of a standard target (42_jtag_tap.md R170). It is a reference function used
to state and check the TMS patterns; it is no register of the block (R46, D41). -/

namespace Sys2Proof.Machine

/-- The sixteen states of R170. -/
inductive TapState where
  | testLogicReset
  | runTestIdle
  | selectDRScan
  | captureDR
  | shiftDR
  | exit1DR
  | pauseDR
  | exit2DR
  | updateDR
  | selectIRScan
  | captureIR
  | shiftIR
  | exit1IR
  | pauseIR
  | exit2IR
  | updateIR
  deriving DecidableEq, Repr

/-- `delta(s, tms)` (R170). -/
def delta : TapState → Level → TapState
  | .testLogicReset, false => .runTestIdle
  | .testLogicReset, true => .testLogicReset
  | .runTestIdle, false => .runTestIdle
  | .runTestIdle, true => .selectDRScan
  | .selectDRScan, false => .captureDR
  | .selectDRScan, true => .selectIRScan
  | .captureDR, false => .shiftDR
  | .captureDR, true => .exit1DR
  | .shiftDR, false => .shiftDR
  | .shiftDR, true => .exit1DR
  | .exit1DR, false => .pauseDR
  | .exit1DR, true => .updateDR
  | .pauseDR, false => .pauseDR
  | .pauseDR, true => .exit2DR
  | .exit2DR, false => .shiftDR
  | .exit2DR, true => .updateDR
  | .updateDR, false => .runTestIdle
  | .updateDR, true => .selectDRScan
  | .selectIRScan, false => .captureIR
  | .selectIRScan, true => .testLogicReset
  | .captureIR, false => .shiftIR
  | .captureIR, true => .exit1IR
  | .shiftIR, false => .shiftIR
  | .shiftIR, true => .exit1IR
  | .exit1IR, false => .pauseIR
  | .exit1IR, true => .updateIR
  | .pauseIR, false => .pauseIR
  | .pauseIR, true => .exit2IR
  | .exit2IR, false => .shiftIR
  | .exit2IR, true => .updateIR
  | .updateIR, false => .runTestIdle
  | .updateIR, true => .selectDRScan

/-- The TAP state after a run of TMS levels, first first. -/
def tapAfter (s : TapState) (tms : List Level) : TapState := tms.foldl delta s

/-- How many cycles of a run of TMS levels start in the state `place`: a scan register shifts one place "in each
cycle whose starting state is Shift-DR or Shift-IR" (R170). -/
def cyclesStartingIn (place : TapState) : TapState → List Level → Nat
  | _, [] => 0
  | s, m :: ms => (if s = place then 1 else 0) + cyclesStartingIn place (delta s m) ms

/-- The TMS level of each TCK pulse of a trace, in order. -/
def tmsLevels (events : List Event) : List Level :=
  events.filterMap fun e =>
    match e with
    | .clkJtag tms _ _ _ => some tms
    | .clkSwdOut _ => none
    | .clkSwdIn _ _ => none
    | .lvl _ _ => none
    | .dir _ _ => none
    | .en _ => none

end Sys2Proof.Machine
end

