-- ==== Sys2Proof/Machine/Results.lean ====
section
/-! DEFINITION. What an operation has returned to the command processor (10_state.md R41): the results it wrote
itself, and nothing for the others (93_implementation_defined.md U22: "a model returns `none` for it"). Reading one
that holds no value is a fault (R45). No operation reads a result (R42, R43). -/

namespace Sys2Proof.Machine

/-- A result as the operation last started returned it: its register if that operation wrote it. -/
def returned {α : Type} (written : Bool) (register : Option α) : Option α := if written then register else none

/-- `ACK`, if the operation wrote it. -/
def returnedAck (s : State) : Option (BitVec 3) := returned s.written.ack s.ack

/-- `PERR`, if the operation wrote it. -/
def returnedPerr (s : State) : Option Bool := returned s.written.perr s.perr

/-- `OK`, if the operation wrote it. -/
def returnedOk (s : State) : Option Bool := returned s.written.ok s.ok

/-- `RDATA`, if the operation wrote it. -/
def returnedRdata (s : State) : Option Word := returned s.written.rdata s.rdata

/-- Byte `k` of `RXBUF`, if the operation wrote it (R62). -/
def returnedRxByte (k : Nat) (s : State) : Option Byte :=
  returned (decide (k < s.written.rxBytes)) (Mem.read s.rxbuf k)

/-- `RBIT`, if the operation wrote it. -/
def returnedRbit (s : State) : Option Level := returned s.written.rbit s.rbit

/-- A result's value, or the fault of R45. -/
def resultValue {α : Type} (r : ResultName) (v : Option α) : Except Fault α :=
  match v with
  | some x => .ok x
  | none => .error (.resultHasNoValue r)

/-- The command processor reads `ACK` (R41). -/
def readAck (s : State) : Except Fault (BitVec 3) := resultValue .ack (returnedAck s)

/-- The command processor reads `PERR` (R41). -/
def readPerr (s : State) : Except Fault Bool := resultValue .perr (returnedPerr s)

/-- The command processor reads `OK` (R41). -/
def readOk (s : State) : Except Fault Bool := resultValue .ok (returnedOk s)

/-- The command processor reads `RDATA` (R41). -/
def readRdata (s : State) : Except Fault Word := resultValue .rdata (returnedRdata s)

/-- The command processor reads byte `k` of `RXBUF` (R41, R64). -/
def readRxByte (k : Nat) (s : State) : Except Fault Byte := resultValue (.rxbuf k) (returnedRxByte k s)

/-- The command processor reads `RBIT` (R41). -/
def readRbit (s : State) : Except Fault Level := resultValue .rbit (returnedRbit s)

end Sys2Proof.Machine
end

