-- ==== Sys2Proof/Safety.lean ====
section
/-! DEFINITION. The words the statements use: which operation belongs to which mode (30_encoding.md R98), the
oracle's coming answers (00_scope.md R12), runs of cycles written as the spec writes them (strings of levels,
42_jtag_tap.md and 43_swd.md), and what a consistent state is. -/

namespace Sys2Proof.Machine

/-- The table of R98: whether an operation is performed in a mode. -/
def performedIn : Instr → Mode → Bool
  | .clockSequence _ _ _, m => m != .disabled
  | .jtagSequence _, m => m == .jtag
  | .jtagReadIdcode, m => m == .jtag
  | .jtagIr, m => m == .jtag
  | .jtagDr, m => m == .jtag
  | .jtagTransfer _ _, m => m == .jtag
  | .jtagWriteAbort, m => m == .jtag
  | .swdSequence _, m => m == .swd
  | .swdTransfer _, m => m == .swd
  | .portOff, _ => true
  | .portJtagSetup, _ => true
  | .portSwdSetup, _ => true
  | .swjSequence, _ => true
  | .pinSwclkTckSet, _ => true
  | .pinSwclkTckClr, _ => true
  | .pinSwdioOut _ _, _ => true
  | .pinSwdioOutEnable, _ => true
  | .pinSwdioOutDisable, _ => true
  | .pinTdiOut _ _, _ => true
  | .pinTdoIn, _ => true
  | .pinNResetOut _ _, _ => true
  | .pinSwdioTmsSet, _ => true
  | .pinSwdioTmsClr, _ => true
  | .pinSwdioIn, _ => true
  | .pinSwclkTckIn, _ => true
  | .pinTdiIn, _ => true
  | .pinNResetIn, _ => true

/-- The three mode operations (R260, R286). -/
def isModeOperation (i : Instr) : Bool := i == .portOff || i == .portJtagSetup || i == .portSwdSetup

/-- The five composite JTAG operations (R173). -/
def isCompositeJtag : Instr → Bool
  | .jtagReadIdcode => true
  | .jtagIr => true
  | .jtagDr => true
  | .jtagTransfer _ _ => true
  | .jtagWriteAbort => true
  | _ => false

/-- Whether the operation clocks at least one cycle in the state (R334): every sequence of at least one bit with an
active mode, and every transfer. -/
def clocksCycles (i : Instr) (s : State) : Bool :=
  match i with
  | .clockSequence _ _ _ => decide (countOperand s ≠ 0)
  | .swjSequence => decide (countOperand s ≠ 0) && s.mode != .disabled
  | .jtagSequence _ => true
  | .swdSequence _ => true
  | .swdTransfer _ => true
  | i => isCompositeJtag i

/-- The conditions, on the state and the operands alone, under which the spec has the operation performed: its mode
(R98), its operands (R146, R172, R249, U5, U6), and, where it clocks cycles, an engine that answers (R334). -/
structure CanRun (i : Instr) (s : State) : Prop where
  mode : performedIn i s.mode = true
  operands : i.operandsLegal s.params s.operands = true
  engine : clocksCycles i s = true → engineStuck s = false

/-- An outcome with its next state changed. -/
def onNext (f : State → State) : Host.Outcome State Fault Refusal → Host.Outcome State Fault Refusal
  | .next t => .next (f t)
  | .fault r => .fault r
  | .refused r => .refused r

/-- The same block with another backend fitted: the parameter, the multiplexer and the engine's owner (R26, R30). -/
def refit (b : Backend) (x : Source) (o : Owner) (s : State) : State :=
  { s with params := { s.params with backend := b }, src := x, shiftOwner := o }

/-- The same block with another clock configuration, slew setting and delay fallback (R27, R35, R163). -/
def retime (c : ClockTiming) (slew fallback : Nat) (s : State) : State :=
  { s with
    slew := slew
    params := { s.params with delayFallback := fallback }
    operands := { s.operands with cfg := { s.operands.cfg with clock := c } } }

/-- Whether the operation may write `RDATA` (R284). -/
def writesRdata : Instr → Bool
  | .jtagReadIdcode => true
  | .jtagIr => true
  | .jtagTransfer request _ => reqRnW request
  | .swdTransfer request => reqRnW request
  | _ => false

/-- Whether the operation may write `RXBUF` (R284). -/
def writesRxbuf : Instr → Bool
  | .clockSequence cap _ _ => cap
  | .jtagSequence info => infoCapture info
  | .swdSequence info => infoCapture info
  | .jtagDr => true
  | _ => false

/-- Whether the operation may write `ACK` (R41). -/
def writesAck : Instr → Bool
  | .jtagTransfer _ _ => true
  | .swdTransfer _ => true
  | _ => false

/-- Whether the operation may write `PERR` (R41). -/
def writesPerr : Instr → Bool
  | .swdTransfer _ => true
  | _ => false

/-- Whether the operation may write `OK` (R41). -/
def writesOk : Instr → Bool
  | .portJtagSetup => true
  | .portSwdSetup => true
  | _ => false

/-- Whether the operation may write `RBIT` (R41). -/
def writesRbit : Instr → Bool
  | .pinTdoIn => true
  | .pinSwdioIn => true
  | .pinSwclkTckIn => true
  | .pinTdiIn => true
  | .pinNResetIn => true
  | _ => false

/-- Whether the operation places a bit on the data-out line (R22, R152): TDI in JTAG mode, SWDIO in SWD mode. A set-up or
a tear-down ends the continuation state, and counts. -/
def drivesDataOut (i : Instr) (s : State) : Bool :=
  match i with
  | .pinTdiOut _ _ => s.mode == .jtag
  | .pinSwdioOut _ _ => s.mode == .swd && s.oe.swdioTms
  | .pinSwdioTmsSet => s.mode == .swd && s.oe.swdioTms
  | .pinSwdioTmsClr => s.mode == .swd && s.oe.swdioTms
  | .pinSwdioOutEnable => s.mode == .swd
  | .clockSequence cap _ _ => clocksCycles i s && !(s.mode == .swd && cap)
  | .swdSequence info => !infoCapture info
  | i => isModeOperation i || clocksCycles i s

/-- Operations one after the other, each with its side operands, none of which places a bit on the data-out line: the
state after the last, and none where one of them drives or does not complete. -/
def runQuiet : List (Instr × Operands) → State → Option State
  | [], s => some s
  | (i, o) :: rest, s =>
    if drivesDataOut i { s with operands := o } then none
    else
      match exec i { s with operands := o } with
      | .next t => runQuiet rest t
      | .fault _ => none
      | .refused _ => none

/-- How many samples an operation captures into `RXBUF` (R41, R62): none where it does not capture. -/
def capturedBits (i : Instr) (o : Operands) : Nat :=
  match i with
  | .clockSequence cap _ _ => if cap then o.count.toNat else 0
  | .jtagSequence info => if infoCapture info then seqCount info else 0
  | .swdSequence info => if infoCapture info then seqCount info else 0
  | .jtagDr => o.count.toNat
  | _ => 0

/-- Whether an operation that ended in `t` has written `RDATA`, told from what else it returned (R41, U22): an `IDCODE`
and an instruction load always, a transfer that reads once its data phase is done: not after an early abort (R195), and
in SWD mode only on an Ok acknowledge (R236: an Ok read whose parity fails returns 4 with `PERR` set). -/
def returnsRdata (i : Instr) (t : State) : Bool :=
  match i with
  | .jtagReadIdcode => true
  | .jtagIr => true
  | .jtagTransfer request checkAck => reqRnW request && (!checkAck || t.ack == some 0b001#3)
  | .swdTransfer request => reqRnW request && (t.ack == some 0b001#3 || t.perr == some true)
  | _ => false

/-- The next `n` oracle levels: the scheduled answers, then free values (R12). -/
def oracleAnswers : Nat → List Level → Nat → List Level
  | 0, _, _ => []
  | n + 1, scheduled, k =>
    scheduled.headD (Config.targetLevel k) :: oracleAnswers n scheduled.tail (k + 1)

/-- The levels the target answers to the next `n` samples of a state. -/
def answers (n : Nat) (s : State) : List Level := oracleAnswers n s.target s.samples

/-- A run of TCK pulses as the spec writes it: the strings `TMS`, `TDI`, `TDO` and `cap`, one entry a cycle. -/
def jtagRun : List Level → List Level → List Level → List Bool → List Event
  | tms :: tmss, tdi :: tdis, t :: ts, cap :: caps => .clkJtag tms tdi t cap :: jtagRun tmss tdis ts caps
  | _, _, _, _ => []

/-- A run of driven SWCLK pulses. -/
def swdDriven (bits : List Level) : List Event := bits.map .clkSwdOut

/-- A run of released SWCLK pulses that all record their level, or none of them. -/
def swdReleased (levels : List Level) (cap : Bool) : List Event := levels.map fun t => .clkSwdIn t cap

/-- An action a JTAG operation or a pin accessor makes: anything but an SWCLK pulse of the SWD engine. -/
def notSwdCycle : Action → Bool
  | .set _ _ => true
  | .dir _ _ => true
  | .enable _ => true
  | .jtag _ _ _ => true
  | .swdOut _ => false
  | .swdIn _ => false

/-- An action an SWD operation or a pin accessor makes: anything but a TCK pulse of the JTAG engine. -/
def notTckCycle : Action → Bool
  | .set _ _ => true
  | .dir _ _ => true
  | .enable _ => true
  | .jtag _ _ _ => false
  | .swdOut _ => true
  | .swdIn _ => true

/-- SWDIO as the wire trace tells it: its direction, its latch, and the last bit placed on or sampled from the wire. -/
structure SwdioWire where
  output : Bool
  latch : Level
  bit : Level
  deriving DecidableEq, Repr

/-- What one event does to SWDIO (R23, R142, R143): a driven cycle, a latch write of an output line and the line made an
output place a bit; a recorded sample is one; nothing else is. -/
def SwdioWire.next (w : SwdioWire) : Event → SwdioWire
  | .lvl .swdioTms b => { w with latch := b, bit := if w.output then b else w.bit }
  | .dir .swdioTms d => { w with output := d, bit := if d then w.latch else w.bit }
  | .clkSwdOut b => { w with latch := b, bit := b }
  | .clkSwdIn t cap => { w with bit := if cap then t else w.bit }
  | _ => w

/-- SWDIO of a state, with the continuation bit as its last bit. -/
def swdioWire (s : State) : SwdioWire := ⟨s.oe.swdioTms, s.out.swdioTms, contDrivenBit s⟩

/-- The six events of a tear-down, in the order of R261. -/
def tearDownEvents : List Event :=
  [.dir .swclkTck false, .dir .swdioTms false, .dir .tdi false, .dir .tdo false, .dir .nReset false, .en false]

/-- `n` equal levels. -/
def levels (n : Nat) (b : Level) : List Level := List.replicate n b

/-- The `Clk` events among some events. -/
def clockEvents (events : List Event) : List Event :=
  events.filter fun e =>
    match e with
    | .clkJtag _ _ _ _ => true
    | .clkSwdOut _ => true
    | .clkSwdIn _ _ => true
    | .lvl _ _ => false
    | .dir _ _ => false
    | .en _ => false

/-- The `Dir` events among some events. -/
def directionEvents (events : List Event) : List Event :=
  events.filter fun e =>
    match e with
    | .dir _ _ => true
    | .clkJtag _ _ _ _ => false
    | .clkSwdOut _ => false
    | .clkSwdIn _ _ => false
    | .lvl _ _ => false
    | .en _ => false

/-- The `Lvl` events among some events. -/
def levelEvents (events : List Event) : List Event :=
  events.filter fun e =>
    match e with
    | .lvl _ _ => true
    | .clkJtag _ _ _ _ => false
    | .clkSwdOut _ => false
    | .clkSwdIn _ _ => false
    | .dir _ _ => false
    | .en _ => false

/-- The `En` events among some events. -/
def enableEvents (events : List Event) : List Event :=
  events.filter fun e =>
    match e with
    | .en _ => true
    | .clkJtag _ _ _ _ => false
    | .clkSwdOut _ => false
    | .clkSwdIn _ _ => false
    | .lvl _ _ => false
    | .dir _ _ => false

/-- What holds between operations in every state the block can reach: the continuation invariant (R23), the
ownership table (R269), the set-up directions no accessor changes (R45, R332), and the canonical form of `RXBUF`. -/
structure Consistent (s : State) : Prop where
  /-- There is a continuation state exactly while a mode is active (R22). -/
  cont_active : s.cont.isSome = true ↔ s.mode ≠ .disabled
  /-- In JTAG mode it holds the TDI and TMS latches (R23). -/
  cont_jtag : s.mode = .jtag →
    s.cont = some { lastDrivenBit := s.out.tdi, lastModeSelectLevel := s.out.swdioTms }
  /-- In SWD mode, while SWDIO is an output, its data bit is the SWDIO latch (R23). -/
  cont_swd : s.mode = .swd → s.oe.swdioTms = true → contDrivenBit s = s.out.swdioTms
  /-- The line set is enabled exactly while a mode is active (R45). -/
  enabled_active : s.enabled = true ↔ s.mode ≠ .disabled
  /-- Clock and reset are outputs exactly while a mode is active (R45). -/
  clock_direction : s.oe.swclkTck = true ↔ s.mode ≠ .disabled
  reset_direction : s.oe.nReset = true ↔ s.mode ≠ .disabled
  /-- TDI is an output in JTAG mode only (R45). -/
  tdi_direction : s.oe.tdi = true ↔ s.mode = .jtag
  /-- TDO is never driven by the block (R126). -/
  tdo_direction : s.oe.tdo = false
  /-- With the software backend nobody owns an engine and the latches drive the pins (R26, R30, R269). -/
  software : s.params.backend = .software → s.shiftOwner = .free ∧ s.src = .latch
  /-- With the hardware backend the active mode owns the engine, which drives the pins (R26, R269, R271). -/
  hardware : s.params.backend = .hardware →
    (s.shiftOwner = .jtag ↔ s.mode = .jtag) ∧ (s.shiftOwner = .swd ↔ s.mode = .swd) ∧
      (s.src = .shifter ↔ s.mode ≠ .disabled)
  /-- The slew setting is the parameter (R27, R45). -/
  slew_setting : s.slew = s.params.slew
  /-- `RXBUF` is in its canonical form. -/
  rxbuf_wf : Mem.wf s.rxbuf = true
  /-- A result the operation last started has written holds a value (R41). -/
  written_ack : s.written.ack = true → s.ack.isSome = true
  written_perr : s.written.perr = true → s.perr.isSome = true
  written_ok : s.written.ok = true → s.ok.isSome = true
  written_rdata : s.written.rdata = true → s.rdata.isSome = true
  written_rxbuf : ∀ k, k < s.written.rxBytes → (Mem.read s.rxbuf k).isSome = true
  written_rbit : s.written.rbit = true → s.rbit.isSome = true

end Sys2Proof.Machine
end

