-- ==== Sys2Proof/Certificates/Slice0/Obligations.lean ====
section
/-! DEFINITION. The statements about the model, for the provers. Each says which rule of the spec it formalises. -/

open Sys2Proof Sys2Proof.Machine

/-! ### The command word and the step -/

/-- Tier 3. Decoding the encoded word of any operation gives the operation back, every field included
(30_encoding.md R94 to R96). -/
def Obligations.DecodeOfEncodeIsTheOperation : Prop :=
  ∀ i : Instr, decode (encode i) = .ok i

/-- Tier 2. A word the decoder accepts is the encoded word of what it reads: no bit is dropped (R94, R96, R99). -/
def Obligations.EncodeOfDecodeIsTheWord : Prop :=
  ∀ (w : Word) (i : Instr), decode w = .ok i → encode i = w

/-- Tier 2. The decoder accepts a word exactly when it has the fixed bits of a row of spec/opcode_table.json; every
other word is reserved (R95, R96, R99). -/
def Obligations.DecoderAcceptsExactlyTheTableRows : Prop :=
  ∀ w : Word, (∃ i, decode w = .ok i) ↔ ∃ r ∈ opcodeRows, r.covers w = true

/-- Tier 1. Command words written out from R94 to R96 and from the vectors of 95_test_vectors.md decode to the
operations they stand for, and four reserved words are rejected by name (R99). -/
def Obligations.WrittenWordsDecode : Prop :=
  decode 0x00000000#32 = .ok .portOff ∧ decode 0x00050010#32 = .ok (.clockSequence true false true) ∧
  decode 0x00004211#32 = .ok (.jtagSequence 0x42) ∧ decode 0x00080623#32 = .ok (.jtagTransfer 0x06 true) ∧
  decode 0x00000230#32 = .ok (.swdTransfer 0x02) ∧ decode 0x0000FE42#32 = .ok (.pinSwdioOut false 0x7F) ∧
  decode 0x0000004D#32 = .ok .pinNResetIn ∧ decode 0x0000004E#32 = .error .reservedOpcode ∧
  decode 0x00000146#32 = .error .argumentNotZero ∧ decode 0x00080010#32 = .error .flagNotZero ∧
  decode 0x01000000#32 = .error .reservedBits

/-- Tier 1. A step performs the next issued command: where its word decodes to `i`, the step is `exec` of `i` in the
state with the command taken, its operands supplied and no result of the operation before it still valid (R41, log 6), and
nothing else is around it. How commands reach the block is the model's choice (log 1). -/
def Obligations.StepPerformsTheIssuedCommand : Prop :=
  ∀ (s : State) (c : Command) (rest : List Command) (i : Instr),
    s.program = c :: rest → decode c.word = .ok i →
    step s = exec i { s with program := rest, operands := c.operands, engineReady := c.engineReady, written := Written.nothing }

/-- Tier 1. A step on a reserved command word is refused by the reason the decoder gives (R99: "is refused"). -/
def Obligations.StepRefusesReservedWords : Prop :=
  ∀ (s : State) (c : Command) (rest : List Command) (e : EncodingProblem),
    s.program = c :: rest → decode c.word = .error e → step s = .refused (.reservedEncoding e)

/-! ### What is performed, what is refused, what waits for ever -/

/-- Tier 2. An operation of any kind completes exactly when its mode, its operands and the engine allow it
(R98, 41_bit_sequence_engine.md R146, 42_jtag_tap.md R172, 43_swd.md R249, 70_reset_and_hazards.md R334). Two of these
conditions rest on the model: that the stuck engine stops an operation at its start (log 9, DESIGN CHOICE), and that a
`TXBUF` too short stops `SWJ_SEQUENCE`, where R270 names only `COUNT > MAX_COUNT`, and that a missing instruction
register length stops `JTAG_IR` (log 13, DEDUCED, from U5). -/
def Obligations.OperationsCompleteExactlyWhenAllowed : Prop :=
  ∀ (i : Instr) (s : State), (∃ t, exec i s = .next t) ↔ CanRun i s

/-- Tier 2. The mode table of R98: an operation is refused for its mode exactly where the table says "refused". That
the mode is the reason named also where the operands are illegal as well is the model's order of checks (log 11, DESIGN
CHOICE): R98 and R299 (a) leave it open. -/
def Obligations.WrongModeIsRefusedByTheTable : Prop :=
  ∀ (i : Instr) (s : State), exec i s = .refused .wrongMode ↔ performedIn i s.mode = false

/-- Tier 2. The one way an operation ends in a fault is the engine that never becomes ready, and only an operation
that clocks a cycle meets it (R334, U7; the place of the wait is the model's, log 9). -/
def Obligations.OnlyAStuckEngineFaults : Prop :=
  ∀ (i : Instr) (s : State) (f : Fault),
    exec i s = .fault f ↔
      f = .engineNeverReady ∧ performedIn i s.mode = true ∧ i.operandsLegal s.params s.operands = true ∧
        clocksCycles i s = true ∧ engineStuck s = true

/-- Tier 2. "All outcomes are returned, never thrown" (60_exceptions.md R290): with the software backend, which has
no wait (R334), no step of any state ends in a fault. -/
def Obligations.SoftwareStepsNeverFault : Prop :=
  ∀ (s : State) (f : Fault), s.params.backend = .software → step s ≠ .fault f

/-! ### Invariants and whole-machine rules -/

/-- Tier 3. Every step keeps the state consistent: the continuation invariant (10_state.md R23), the directions and
enable of R45, the ownership table (R269), the slew setting, the canonical capture buffer, and that a result an operation
has written holds a value (R41). -/
def Obligations.StepKeepsConsistent : Prop :=
  ∀ s t : State, Consistent s → step s = .next t → Consistent t

/-- Tier 1. The reset state is consistent, whatever the parameters. -/
def Obligations.ResetIsConsistent : Prop :=
  (∀ p : Params, Consistent (State.resetWith p)) ∧ Consistent State.reset

/-- Tier 1. The reset state of R45 and R321, whatever the parameters: every field of the record `S`, no result with a
value, and no pin driven. -/
def Obligations.ResetStateIsAsTabulated : Prop :=
  ∀ p : Params,
    let s := State.resetWith p
    s.mode = .disabled ∧ s.cont = none ∧ s.enabled = false ∧ (∀ l, s.oe.get l = false) ∧
    (∀ l, s.out.get l = true) ∧ s.src = .latch ∧ s.slew = p.slew ∧ s.shiftOwner = .free ∧
    s.ack = none ∧ s.perr = none ∧ s.ok = none ∧ s.rdata = none ∧ (∀ k, Mem.read s.rxbuf k = none) ∧
    s.rbit = none ∧ (∀ l, pinLevel l s = .highZ)

/-- Tier 2. A result is valid only for the operation that wrote it (R41: "valid until the next operation starts", with
U22: for a result not written "a model returns `none`"), and one that holds no value must not be read (R45). After reset
every read of a result is a fault. After an operation a read succeeds exactly where the operation wrote, and gives the
value written: `RXBUF` in the bytes of its capture and nowhere else, none after a capture of count 0; `RDATA` of a read
transfer on a completed data phase only, not on Wait, Fault, ProtocolError or an early abort (log 6). -/
def Obligations.ReadingAResultWithoutValueFaults : Prop :=
  (∀ (p : Params) (k : Nat),
    let s := State.resetWith p
    readAck s = .error (.resultHasNoValue .ack) ∧ readPerr s = .error (.resultHasNoValue .perr) ∧
    readOk s = .error (.resultHasNoValue .ok) ∧ readRdata s = .error (.resultHasNoValue .rdata) ∧
    readRxByte k s = .error (.resultHasNoValue (.rxbuf k)) ∧ readRbit s = .error (.resultHasNoValue .rbit)) ∧
  ∀ (s t : State) (c : Command) (rest : List Command) (i : Instr) (k : Nat),
    s.program = c :: rest → decode c.word = .ok i → step s = .next t →
    (writesAck i = false → readAck t = .error (.resultHasNoValue .ack)) ∧
    (writesPerr i = false → readPerr t = .error (.resultHasNoValue .perr)) ∧
    (writesOk i = false → readOk t = .error (.resultHasNoValue .ok)) ∧
    (returnsRdata i t = false → readRdata t = .error (.resultHasNoValue .rdata)) ∧
    ((capturedBits i c.operands + 7) / 8 ≤ k → readRxByte k t = .error (.resultHasNoValue (.rxbuf k))) ∧
    (writesRbit i = false → readRbit t = .error (.resultHasNoValue .rbit)) ∧
    (writesAck i = true → ∃ v, t.ack = some v ∧ readAck t = .ok v) ∧
    (writesPerr i = true → ∃ v, t.perr = some v ∧ readPerr t = .ok v) ∧
    (writesOk i = true → ∃ v, t.ok = some v ∧ readOk t = .ok v) ∧
    (returnsRdata i t = true → ∃ v, t.rdata = some v ∧ readRdata t = .ok v) ∧
    (k < (capturedBits i c.operands + 7) / 8 → ∃ v, Mem.read t.rxbuf k = some v ∧ readRxByte k t = .ok v) ∧
    (writesRbit i = true → ∃ v, t.rbit = some v ∧ readRbit t = .ok v)

/-- Tier 2. Only the three mode operations change the mode, the multiplexer, the slew setting, the engine's owner
and the global enable (10_state.md R21, R26, R30; 44_transport_selector.md R269). -/
def Obligations.OnlyModeOperationsReconfigure : Prop :=
  ∀ (i : Instr) (s t : State), isModeOperation i = false → exec i s = .next t →
    t.mode = s.mode ∧ t.src = s.src ∧ t.slew = s.slew ∧ t.shiftOwner = s.shiftOwner ∧ t.enabled = s.enabled

/-- Tier 2. No operation writes its operands or the configuration (R32, R40), and the trace only grows (R70). -/
def Obligations.OperandsAreNeverWritten : Prop :=
  ∀ (i : Instr) (s t : State), exec i s = .next t →
    t.operands = s.operands ∧ t.params = s.params ∧ t.program = s.program ∧ t.engineReady = s.engineReady ∧
      ∃ evs, t.trace = s.trace ++ evs

/-- Tier 2. "A result an operation does not write is left unchanged by it" (R41), with the writers of R41 and of
45_common_laws.md R284. -/
def Obligations.UnwrittenResultsAreKept : Prop :=
  ∀ (i : Instr) (s t : State), exec i s = .next t →
    (writesAck i = false → t.ack = s.ack ∧ t.written.ack = s.written.ack) ∧
    (writesPerr i = false → t.perr = s.perr ∧ t.written.perr = s.written.perr) ∧
    (writesOk i = false → t.ok = s.ok ∧ t.written.ok = s.written.ok) ∧
    (writesRdata i = false → t.rdata = s.rdata ∧ t.written.rdata = s.written.rdata) ∧
    (writesRxbuf i = false → t.rxbuf = s.rxbuf ∧ t.written.rxBytes = s.written.rxBytes) ∧
    (writesRbit i = false → t.rbit = s.rbit ∧ t.written.rbit = s.written.rbit)

/-- Tier 2. No operation but a mode operation can tell which backend is fitted (R26, 41_bit_sequence_engine.md R150,
R160): with the engine ready, the outcome of the refitted block is the refitted outcome. -/
def Obligations.BackendIsInvisible : Prop :=
  ∀ (i : Instr) (s : State) (b : Backend) (x : Source) (o : Owner),
    isModeOperation i = false → s.engineReady = true →
    exec i (refit b x o s) = onNext (refit b x o) (exec i s)

/-- Tier 2. The clock configuration, the slew setting and the delay fallback change no event and no result of an
operation that is not a mode operation (R27, R35, R163). -/
def Obligations.TimingIsInvisible : Prop :=
  ∀ (i : Instr) (s : State) (c : ClockTiming) (slew fallback : Nat),
    isModeOperation i = false →
    exec i (retime c slew fallback s) = onNext (retime c slew fallback) (exec i s)

/-- Tier 2. The continuation invariant at every point between two events (R23). In JTAG mode, whatever actions the JTAG
operations and the pin accessors make, `S.cont` holds the TDI and TMS latches after each. In SWD mode, whatever actions
the SWD operations and the pin accessors make, its data bit is the last bit placed on or sampled from SWDIO, as the
emitted events tell it; and after each single action: the SWDIO latch if the action drove SWDIO, the sample if it
recorded one, else the bit before. -/
def Obligations.ContinuationFollowsTheWire : Prop :=
  (∀ (as : List Action) (s : State), as.all notSwdCycle = true → s.mode = .jtag →
    s.cont = some { lastDrivenBit := s.out.tdi, lastModeSelectLevel := s.out.swdioTms } →
    (runActions as s).1.cont =
      some { lastDrivenBit := (runActions as s).1.out.tdi, lastModeSelectLevel := (runActions as s).1.out.swdioTms }) ∧
  (∀ (as : List Action) (s : State), as.all notTckCycle = true → s.mode = .swd → s.cont.isSome = true →
    ∃ evs, (runActions as s).1.trace = s.trace ++ evs ∧ (runActions as s).1.cont.isSome = true ∧
      swdioWire (runActions as s).1 = evs.foldl SwdioWire.next (swdioWire s)) ∧
  ∀ (s : State), s.mode = .swd → s.cont.isSome = true →
    (∀ b, contDrivenBit (runAction (.swdOut b) s).1 = (runAction (.swdOut b) s).1.out.swdioTms) ∧
    (∀ b, contDrivenBit (runAction (.set .swdioTms b) s).1 =
      if s.oe.swdioTms then (runAction (.set .swdioTms b) s).1.out.swdioTms else contDrivenBit s) ∧
    (∀ d, contDrivenBit (runAction (.dir .swdioTms d) s).1 = if d then s.out.swdioTms else contDrivenBit s) ∧
    ∀ cap, contDrivenBit (runAction (.swdIn cap) s).1 = if cap then oracleLevel s else contDrivenBit s

/-! ### The Transport Selector -/

/-- Tier 2. `PORT_OFF` is the tear-down of R261: every direction to input, the enable off, mode, continuation state,
multiplexer and ownership released, the latches kept, six events in order; the rest of the state unchanged. -/
def Obligations.PortOffTearsDown : Prop :=
  ∀ s : State, exec .portOff s = .next
    { s with
      mode := .disabled, cont := none, oe := ⟨false, false, false, false, false⟩, enabled := false, src := .latch
      shiftOwner := if s.shiftOwner = .trace then .trace else .free
      trace := s.trace ++ tearDownEvents }

/-- Tier 2. The tear-down is idempotent (R266): after it the mode is disabled, there is no continuation state, every
direction and the enable are 0, the latches are as they were, the source is the latch and the owner none or the trace
owner; a second one changes nothing of that, only the trace grows, by the same six events. -/
def Obligations.PortOffIsIdempotent : Prop :=
  ∀ s t : State, exec .portOff s = .next t →
    t.mode = .disabled ∧ t.cont = none ∧ (∀ l, t.oe.get l = false) ∧ t.enabled = false ∧ t.out = s.out ∧
    t.src = .latch ∧ (t.shiftOwner = .free ∨ t.shiftOwner = .trace) ∧ t.trace = s.trace ++ tearDownEvents ∧
    exec .portOff t = .next { t with trace := t.trace ++ tearDownEvents }

/-- Tier 2. `PORT_JTAG_SETUP` (R263): with the engine taken it releases every line and returns `OK = 0`; otherwise it
leaves the lines, latches, owner, multiplexer and continuation state of R45 and returns `OK = 1`, with the events in
the order of R263. The rest of the state is unchanged. -/
def Obligations.PortJtagSetupConfiguresOrFails : Prop :=
  ∀ s : State, exec .portJtagSetup s = .next
    (if s.params.backend = .hardware ∧ s.operands.trace = true then
      { s with
        mode := .disabled, cont := none, oe := ⟨false, false, false, false, false⟩, enabled := false, src := .latch
        shiftOwner := .trace, ok := some false, written := { s.written with ok := true }
        trace := s.trace ++ tearDownEvents }
    else
      { s with
        mode := .jtag, cont := some ⟨true, true⟩, enabled := true, slew := s.params.slew, ok := some true
        written := { s.written with ok := true }
        oe := ⟨true, true, true, false, true⟩
        out := { swclkTck := true, swdioTms := true, tdi := true, tdo := s.out.tdo, nReset := true }
        src := if s.params.backend = .hardware then .shifter else .latch
        shiftOwner := if s.params.backend = .hardware then .jtag else if s.shiftOwner = .trace then .trace else .free
        trace := s.trace ++ tearDownEvents ++
          [.lvl .swclkTck true, .lvl .swdioTms true, .lvl .tdi true, .lvl .nReset true,
            .dir .swclkTck true, .dir .swdioTms true, .dir .tdi true, .dir .tdo false, .dir .nReset true,
            .en true] })

/-- Tier 2. `PORT_SWD_SETUP` (R264), as above: TDI and TDO are inputs and their latches are not written. -/
def Obligations.PortSwdSetupConfiguresOrFails : Prop :=
  ∀ s : State, exec .portSwdSetup s = .next
    (if s.params.backend = .hardware ∧ s.operands.trace = true then
      { s with
        mode := .disabled, cont := none, oe := ⟨false, false, false, false, false⟩, enabled := false, src := .latch
        shiftOwner := .trace, ok := some false, written := { s.written with ok := true }
        trace := s.trace ++ tearDownEvents }
    else
      { s with
        mode := .swd, cont := some ⟨true, true⟩, enabled := true, slew := s.params.slew, ok := some true
        written := { s.written with ok := true }
        oe := ⟨true, true, false, false, true⟩
        out := { swclkTck := true, swdioTms := true, tdi := s.out.tdi, tdo := s.out.tdo, nReset := true }
        src := if s.params.backend = .hardware then .shifter else .latch
        shiftOwner := if s.params.backend = .hardware then .swd else if s.shiftOwner = .trace then .trace else .free
        trace := s.trace ++ tearDownEvents ++
          [.lvl .swclkTck true, .lvl .swdioTms true, .lvl .nReset true,
            .dir .swclkTck true, .dir .swdioTms true, .dir .tdi false, .dir .tdo false, .dir .nReset true,
            .en true] })

/-- Tier 2. The ownership table of R269, from a consistent state. -/
def Obligations.OwnershipFollowsTheTable : Prop :=
  ∀ (s t : State), Consistent s →
    (s.params.backend = .software → ∀ i, exec i s = .next t → t.shiftOwner = .free) ∧
    (s.params.backend = .hardware →
      (exec .portOff s = .next t → t.shiftOwner = if s.shiftOwner = .trace then .trace else .free) ∧
      (exec .portJtagSetup s = .next t → t.shiftOwner = if s.operands.trace then .trace else .jtag) ∧
      (exec .portSwdSetup s = .next t → t.shiftOwner = if s.operands.trace then .trace else .swd) ∧
      ∀ i, isModeOperation i = false → exec i s = .next t → t.shiftOwner = s.shiftOwner)

/-- Tier 2. `SWJ_SEQUENCE` of at least one bit (R270, R272): in JTAG mode the bits go to TMS and TDI holds the
continuation bit; in SWD mode SWDIO is driven with them; with no active mode only latches are written, three events
a bit. -/
def Obligations.SwjSequenceDispatchesOnTheMode : Prop :=
  ∀ (s : State), CanRun .swjSequence s → 0 < s.operands.count.toNat →
    let n := s.operands.count.toNat
    let bits := bufferBits s.operands.txbuf n
    exec .swjSequence s = .next
      (match s.mode with
      | .jtag =>
        { s with
          out := { s.out with swclkTck := true, swdioTms := bits.getLastD true, tdi := contDrivenBit s }
          cont := some { lastDrivenBit := contDrivenBit s, lastModeSelectLevel := bits.getLastD true }
          target := s.target.drop n
          samples := s.samples + n
          trace := s.trace ++ jtagRun bits (levels n (contDrivenBit s)) (answers n s) (levels n false) }
      | .swd =>
        { s with
          oe := { s.oe with swdioTms := true }
          out := { s.out with swclkTck := true, swdioTms := bits.getLastD true }
          cont := s.cont.map fun c => { c with lastDrivenBit := bits.getLastD true }
          trace := s.trace ++ [.dir .swdioTms true] ++ swdDriven bits }
      | .disabled =>
        { s with
          out := { s.out with swclkTck := true, swdioTms := bits.getLastD true }
          trace := s.trace ++
            bits.flatMap fun b => [.lvl .swdioTms b, .lvl .swclkTck false, .lvl .swclkTck true] })

/-! ### The Bit-Sequence Engine -/

/-- Tier 2. A count of 0 is a no-op of `CLOCK_SEQUENCE` and of `SWJ_SEQUENCE` (R154, R271): the state is unchanged. -/
def Obligations.ZeroCountIsANoOp : Prop :=
  ∀ (s : State) (cap held outPresent : Bool), s.operands.count = 0 →
    (s.mode ≠ .disabled → exec (.clockSequence cap held outPresent) s = .next s) ∧ exec .swjSequence s = .next s

/-- Tier 2. `CLOCK_SEQUENCE` of at least one cycle in JTAG mode (R146 to R148): TMS at `held`, TDI at the bits of
`outData` or at the continuation bit, the samples to `RXBUF` when capturing; the rest unchanged. -/
def Obligations.ClockSequenceInJtagMode : Prop :=
  ∀ (s : State) (cap held outPresent : Bool),
    CanRun (.clockSequence cap held outPresent) s → s.mode = .jtag → 0 < s.operands.count.toNat →
    let n := s.operands.count.toNat
    let drive := if outPresent then bufferBits s.operands.txbuf n else levels n (contDrivenBit s)
    exec (.clockSequence cap held outPresent) s = .next
      { s with
        out := { s.out with swclkTck := true, swdioTms := held, tdi := drive.getLastD true }
        cont := some { lastDrivenBit := drive.getLastD true, lastModeSelectLevel := held }
        rxbuf := if cap then Mem.writeBytes s.rxbuf 0 (packBytes (answers n s)) else s.rxbuf
        written := if cap then { s.written with rxBytes := (n + 7) / 8 } else s.written
        target := s.target.drop n
        samples := s.samples + n
        trace := s.trace ++ jtagRun (levels n held) drive (answers n s) (levels n cap) }

/-- Tier 2. `CLOCK_SEQUENCE` of at least one cycle in SWD mode, capturing (R146, R153): SWDIO is released, sampled in
every cycle and left released; `outData` is ignored; `held` is only recorded. -/
def Obligations.ClockSequenceCapturesInSwdMode : Prop :=
  ∀ (s : State) (held outPresent : Bool),
    CanRun (.clockSequence true held outPresent) s → s.mode = .swd → 0 < s.operands.count.toNat →
    let n := s.operands.count.toNat
    exec (.clockSequence true held outPresent) s = .next
      { s with
        oe := { s.oe with swdioTms := false }
        out := { s.out with swclkTck := true }
        cont := s.cont.map fun _ =>
          { lastDrivenBit := (answers n s).getLastD true, lastModeSelectLevel := held }
        rxbuf := Mem.writeBytes s.rxbuf 0 (packBytes (answers n s))
        written := { s.written with rxBytes := (n + 7) / 8 }
        target := s.target.drop n
        samples := s.samples + n
        trace := s.trace ++ [.dir .swdioTms false] ++ swdReleased (answers n s) true }

/-- Tier 2. `CLOCK_SEQUENCE` of at least one cycle in SWD mode, driving (R146, R153): SWDIO is made an output and
driven with the bits of `outData`; without them it repeats the level the pin takes when it is made an output, which is
the SWDIO latch (R118; where the line was released this is the model's reading of R146 against R147, log 12). -/
def Obligations.ClockSequenceDrivesInSwdMode : Prop :=
  ∀ (s : State) (c : Continuation) (held outPresent : Bool),
    CanRun (.clockSequence false held outPresent) s → s.mode = .swd → s.cont = some c →
    0 < s.operands.count.toNat →
    let n := s.operands.count.toNat
    let drive := if outPresent then bufferBits s.operands.txbuf n else levels n s.out.swdioTms
    exec (.clockSequence false held outPresent) s = .next
      { s with
        oe := { s.oe with swdioTms := true }
        out := { s.out with swclkTck := true, swdioTms := drive.getLastD true }
        cont := some { lastDrivenBit := drive.getLastD true, lastModeSelectLevel := held }
        trace := s.trace ++ [.dir .swdioTms true] ++ swdDriven drive }

/-- Tier 2. Continuation (R147, R152): after a `CLOCK_SEQUENCE` that drove a sequence ending in `b`, a call without
`outData` drives `count` copies of `b`, for any count, in both modes, across any number of intervening operations that
drive no data-out bit; in SWD mode where these leave the SWDIO latch as it was, a capture among them. (Where one writes
the latch of a released SWDIO, the call's own `SwdOut()` places that level on the wire and makes it the continuation
bit, R146 with R118 and R122: log 12.) -/
def Obligations.ContinuationRepeatsTheLastBit : Prop :=
  ∀ (s t r : State) (between : List (Instr × Operands)) (o : Operands) (cap held cap' held' : Bool),
    0 < s.operands.count.toNat → exec (.clockSequence cap held true) s = .next t → runQuiet between t = some r →
    CanRun (.clockSequence cap' held' false) { r with operands := o } → 0 < o.count.toNat →
    let n := o.count.toNat
    let b := (bufferBits s.operands.txbuf s.operands.count.toNat).getLastD true
    (s.mode = .jtag →
      ∃ u, exec (.clockSequence cap' held' false) { r with operands := o } = .next u ∧
        u.trace = r.trace ++ jtagRun (levels n held') (levels n b) (answers n r) (levels n cap')) ∧
    (s.mode = .swd → s.cont.isSome = true → cap = false → cap' = false → r.out.swdioTms = t.out.swdioTms →
      ∃ u, exec (.clockSequence cap' held' false) { r with operands := o } = .next u ∧
        u.trace = r.trace ++ [.dir .swdioTms true] ++ swdDriven (levels n b))

/-- Tier 2. Chunking transparency (R149, R150): for every burst size, count, held level, capture flag and drive
buffer, the burst-split engine with its reassembly ends in the state of the per-cycle contract: the same events, the
same `RXBUF`, the same continuation state. -/
def Obligations.BurstSplitIsInvisible : Prop :=
  ∀ (m n : Nat) (held cap : Bool) (out : Option (List Level)) (s : State),
    0 < m → s.mode ≠ .disabled → (∀ bits, out = some bits → bits.length = n) →
    clockSequenceBursts m n held cap out s = clockSequence n held cap out s

/-- Tier 2. `JTAG_SEQUENCE` (R155) with the `info` byte of R81 and R83. -/
def Obligations.JtagSequenceClocksTheInfoByte : Prop :=
  ∀ (s : State) (info : Byte), CanRun (.jtagSequence info) s →
    let n := if info.toNat % 64 = 0 then 64 else info.toNat % 64
    let drive := bufferBits s.operands.txbuf n
    exec (.jtagSequence info) s = .next
      { s with
        out := { s.out with swclkTck := true, swdioTms := info.getLsbD 6, tdi := drive.getLastD true }
        cont := some { lastDrivenBit := drive.getLastD true, lastModeSelectLevel := info.getLsbD 6 }
        rxbuf := if info.getLsbD 7 then Mem.writeBytes s.rxbuf 0 (packBytes (answers n s)) else s.rxbuf
        written := if info.getLsbD 7 then { s.written with rxBytes := (n + 7) / 8 } else s.written
        target := s.target.drop n
        samples := s.samples + n
        trace := s.trace ++
          jtagRun (levels n (info.getLsbD 6)) drive (answers n s) (levels n (info.getLsbD 7)) }

/-- Tier 2. `SWD_SEQUENCE` (R157) with the `info` byte of R82 and R83: an input sequence releases, samples and leaves
SWDIO released (R158); an output sequence drives `swdo`; `info[6]` is ignored and the held level is kept. -/
def Obligations.SwdSequenceSamplesOrDrives : Prop :=
  ∀ (s : State) (info : Byte), CanRun (.swdSequence info) s →
    let n := if info.toNat % 64 = 0 then 64 else info.toNat % 64
    let drive := bufferBits s.operands.txbuf n
    exec (.swdSequence info) s = .next
      (if info.getLsbD 7 then
        { s with
          oe := { s.oe with swdioTms := false }
          out := { s.out with swclkTck := true }
          cont := s.cont.map fun c => { c with lastDrivenBit := (answers n s).getLastD true }
          rxbuf := Mem.writeBytes s.rxbuf 0 (packBytes (answers n s))
          written := { s.written with rxBytes := (n + 7) / 8 }
          target := s.target.drop n
          samples := s.samples + n
          trace := s.trace ++ [.dir .swdioTms false] ++ swdReleased (answers n s) true }
      else
        { s with
          oe := { s.oe with swdioTms := true }
          out := { s.out with swclkTck := true, swdioTms := drive.getLastD true }
          cont := s.cont.map fun c => { c with lastDrivenBit := drive.getLastD true }
          trace := s.trace ++ [.dir .swdioTms true] ++ swdDriven drive })

/-- Tier 2. A capture of `n` samples (20_memory.md R61, R62): sample `i` is bit `i` of `RXBUF`; the unused high bits of
the last byte are 0; the bytes after it are not written. -/
def Obligations.CaptureFillsTheBuffer : Prop :=
  ∀ (samples : List Level) (s : State) (i : Nat),
    let m := (storeCapture samples s).rxbuf
    (∀ h : i < samples.length, Mem.readBit m i = some samples[i]) ∧
    (samples.length ≤ i → i / 8 < (samples.length + 7) / 8 → Mem.readBit m i = some false) ∧
    ((samples.length + 7) / 8 ≤ i → Mem.read m i = Mem.read s.rxbuf i)

/-- Tier 2. The two reversals and the backend's own bit order cancel (R65): a backend that moves each byte most
significant bit first, given the reversed drive bytes, drives the bits of R60; its returned bytes, reversed, are the
capture of R61 and R62. -/
def Obligations.ByteReversalCancels : Prop :=
  (∀ (d : List Byte) (n : Nat), (n + 7) / 8 ≤ d.length → backendDrives (reverseBuffer d) n = bufferBits d n) ∧
  (∀ samples : List Level, reverseBuffer (backendReturns samples) = packBytes samples)

/-- Tier 1. `reverse8` (R66): bit `i` is bit `7 - i`; it is its own inverse; the in-place form reverses every byte and
keeps the byte order; the rule's four examples. -/
def Obligations.ReverseIsAnInvolution : Prop :=
  (∀ (b : Byte) (i : Nat), i < 8 → (reverse8 b).getLsbD i = b.getLsbD (7 - i)) ∧
    (∀ b : Byte, reverse8 (reverse8 b) = b) ∧
    (∀ (buf : List Byte) (k : Nat), (reverseBuffer buf)[k]? = buf[k]?.map reverse8) ∧ reverse8 0x01 = 0x80 ∧ reverse8 0x12 = 0x48 ∧ reverse8 0xA5 = 0xA5 ∧
    reverse8 0x6E = 0x76

/-- Tier 2. The software backend (R140, R151): a cycle made of Line Driver primitives on the latches leaves the same
state and takes the same sample as the cycle of the engine, the trace alone apart, which shows the latch writes: the TCK
pulse of R141, and in SWD mode the driven pulse of R142 on an output line and the released pulse of R143, recorded or
not. -/
def Obligations.SoftwareCycleMatchesTheCycle : Prop :=
  (∀ (s : State) (tms tdi cap : Bool), s.mode = .jtag → s.cont.isSome = true → s.oe.tdo = false →
    (softwareCycle tms tdi s).1 = (jCycle tms (some tdi) cap s).1 ∧
    { (softwareCycle tms tdi s).2 with trace := s.trace } = { (jCycle tms (some tdi) cap s).2 with trace := s.trace }) ∧
  (∀ (s : State) (b : Level), s.mode = .swd → s.oe.swdioTms = true →
    { softwareDrivenCycle b s with trace := s.trace } = { sCycleOut b s with trace := s.trace }) ∧
  ∀ (s : State) (cap : Bool), s.mode = .swd → s.oe.swdioTms = false →
    (softwareReleasedCycle cap s).1 = (sCycleIn cap s).1 ∧
    { (softwareReleasedCycle cap s).2 with trace := s.trace } = { (sCycleIn cap s).2 with trace := s.trace }

/-! ### The JTAG TAP Controller -/

/-- Tier 2. `JTAG_READ_IDCODE` (42_jtag_tap.md R180, R181): the walk, `idx` fillers, 32 captured bits with TMS rising
on the last, the tail, no park; TDI at the continuation bit throughout; `RDATA` the 32 samples. -/
def Obligations.JtagReadIdcodeCapturesTheIdcode : Prop :=
  ∀ s : State, CanRun .jtagReadIdcode s →
    let idx := s.operands.cfg.chain.deviceIndex.toNat
    let pre := if s.params.idcodeFromReset then [true, true, true, true, true, false] else []
    let n := pre.length + 3 + idx + 32 + 2
    let d := contDrivenBit s
    exec .jtagReadIdcode s = .next
      { s with
        out := { s.out with swclkTck := true, swdioTms := false, tdi := d }
        cont := some { lastDrivenBit := d, lastModeSelectLevel := false }
        rdata := some (wordOfBits 32 (((answers n s).drop (pre.length + 3 + idx)).take 32))
        written := { s.written with rdata := true }
        target := s.target.drop n
        samples := s.samples + n
        trace := s.trace ++
          jtagRun (pre ++ [true, false, false] ++ levels (idx + 31) false ++ [true] ++ [true, false]) (levels n d)
            (answers n s) (levels (pre.length + 3 + idx) false ++ levels 32 true ++ levels 2 false) }

/-- Tier 2. `JTAG_IR` (R183, R184): exactly `irBefore` filler ones, the `L` instruction bits, exactly `irAfter` filler
ones, TMS high on the last of these only, the tail, the park; `RDATA` the `L` captured bits, zero above. -/
def Obligations.JtagIrShiftsTheInstruction : Prop :=
  ∀ (s : State) (len : Word), CanRun .jtagIr s →
    s.operands.cfg.chain.irLengthPerDevice[s.operands.cfg.chain.deviceIndex.toNat]? = some len →
    let before := s.operands.cfg.chain.irBeforeBits.toNat
    let after := s.operands.cfg.chain.irAfterBits.toNat
    let ir := wordBits s.operands.data len.toNat
    let n := 4 + before + len.toNat + after + 2
    let d := contDrivenBit s
    let last := if after = 0 then ir.getLastD true else true
    exec .jtagIr s = .next
      { s with
        out := { s.out with swclkTck := true, swdioTms := false, tdi := true }
        cont := some { lastDrivenBit := true, lastModeSelectLevel := false }
        rdata := some (wordOfBits 32 (((answers n s).drop (4 + before)).take len.toNat))
        written := { s.written with rdata := true }
        target := s.target.drop n
        samples := s.samples + n
        trace := s.trace ++
          jtagRun
            ([true, true, false, false] ++ levels (before + len.toNat + after - 1) false ++ [true] ++ [true, false])
            (levels 4 d ++ levels before true ++ ir ++ levels after true ++ levels 2 last)
            (answers n s)
            (levels (4 + before) false ++ levels len.toNat true ++ levels (after + 2) false) ++
          [.lvl .tdi true] }

/-- Tier 2. `JTAG_DR` (R188): `idx` fillers, the `COUNT` bits of `TXBUF`, the trailing fillers, TMS high on the last of
these only, the tail, the park; the captured bits to `RXBUF`. -/
def Obligations.JtagDrShiftsTheData : Prop :=
  ∀ s : State, CanRun .jtagDr s →
    let idx := s.operands.cfg.chain.deviceIndex.toNat
    let after := s.operands.cfg.chain.deviceCount.toNat - idx - 1
    let bits := bufferBits s.operands.txbuf s.operands.count.toNat
    let n := 3 + idx + s.operands.count.toNat + after + 2
    let d := contDrivenBit s
    exec .jtagDr s = .next
      { s with
        out := { s.out with swclkTck := true, swdioTms := false, tdi := true }
        cont := some { lastDrivenBit := true, lastModeSelectLevel := false }
        rxbuf := Mem.writeBytes s.rxbuf 0
          (packBytes (((answers n s).drop (3 + idx)).take s.operands.count.toNat))
        written := { s.written with rxBytes := (s.operands.count.toNat + 7) / 8 }
        target := s.target.drop n
        samples := s.samples + n
        trace := s.trace ++
          jtagRun
            ([true, false, false] ++ levels (idx + s.operands.count.toNat + after - 1) false ++ [true] ++
              [true, false])
            (levels (3 + idx) d ++ bits ++ levels (after + 2) (bits.getLastD true))
            (answers n s)
            (levels (3 + idx) false ++ levels s.operands.count.toNat true ++ levels (after + 2) false) ++
          [.lvl .tdi true] }

/-- Tier 2. `JTAG_TRANSFER` aborting early (R192 to R195): with `checkAck` and a corrected acknowledge other than
`0b001`, one TMS = 1 cycle, the tail, the idle cycles, the park; `ACK` is the acknowledge and `RDATA` is kept. -/
def Obligations.JtagTransferAbortsEarly : Prop :=
  ∀ (s : State) (request : Byte), CanRun (.jtagTransfer request true) s →
    let idx := s.operands.cfg.chain.deviceIndex.toNat
    let idle := s.operands.cfg.idleCycles.toNat
    let n := 3 + idx + 3 + 1 + 2 + idle
    let ack := jtagAckRemap (wordOfBits 3 (((answers n s).drop (3 + idx)).take 3))
    ack ≠ 0b001#3 →
    exec (.jtagTransfer request true) s = .next
      { s with
        out := { s.out with swclkTck := true, swdioTms := false, tdi := true }
        cont := some { lastDrivenBit := true, lastModeSelectLevel := false }
        ack := some ack
        written := { s.written with ack := true }
        target := s.target.drop n
        samples := s.samples + n
        trace := s.trace ++
          jtagRun
            ([true, false, false] ++ levels (idx + 3) false ++ [true] ++ [true, false] ++ levels idle false)
            (levels (3 + idx) (contDrivenBit s) ++ [request.getLsbD 1, request.getLsbD 2, request.getLsbD 3] ++
              levels (3 + idle) (request.getLsbD 3))
            (answers n s)
            (levels (3 + idx) false ++ levels 3 true ++ levels (3 + idle) false) ++
          [.lvl .tdi true] }

/-- Tier 2. `JTAG_TRANSFER` with a read data phase (R192, R196): run when the acknowledge is Ok or not checked; 32
captured cycles with TDI at `A3`, the trailing fillers, the tail, the idle cycles, the park; `ACK` and `RDATA`. -/
def Obligations.JtagTransferReads : Prop :=
  ∀ (s : State) (request : Byte) (checkAck : Bool), CanRun (.jtagTransfer request checkAck) s →
    request.getLsbD 1 = true →
    let idx := s.operands.cfg.chain.deviceIndex.toNat
    let after := s.operands.cfg.chain.deviceCount.toNat - idx - 1
    let idle := s.operands.cfg.idleCycles.toNat
    let n := 3 + idx + 3 + 32 + after + 2 + idle
    let ack := jtagAckRemap (wordOfBits 3 (((answers n s).drop (3 + idx)).take 3))
    (checkAck = true → ack = 0b001#3) →
    exec (.jtagTransfer request checkAck) s = .next
      { s with
        out := { s.out with swclkTck := true, swdioTms := false, tdi := true }
        cont := some { lastDrivenBit := true, lastModeSelectLevel := false }
        ack := some ack
        rdata := some (wordOfBits 32 (((answers n s).drop (3 + idx + 3)).take 32))
        written := { s.written with ack := true, rdata := true }
        target := s.target.drop n
        samples := s.samples + n
        trace := s.trace ++
          jtagRun
            ([true, false, false] ++ levels (idx + 3 + 31 + after) false ++ [true] ++ [true, false] ++
              levels idle false)
            (levels (3 + idx) (contDrivenBit s) ++ [request.getLsbD 1, request.getLsbD 2, request.getLsbD 3] ++
              levels (32 + after + 2 + idle) (request.getLsbD 3))
            (answers n s)
            (levels (3 + idx) false ++ levels 35 true ++ levels (after + 2 + idle) false) ++
          [.lvl .tdi true] }

/-- Tier 2. `JTAG_TRANSFER` with a write data phase (R192, R197): 32 uncaptured cycles carrying `DATA`, bit 0 first,
then the fillers, the tail and the idle cycles at `DATA[31]`, the park; `ACK` is written and `RDATA` is kept. -/
def Obligations.JtagTransferWrites : Prop :=
  ∀ (s : State) (request : Byte) (checkAck : Bool), CanRun (.jtagTransfer request checkAck) s →
    request.getLsbD 1 = false →
    let idx := s.operands.cfg.chain.deviceIndex.toNat
    let after := s.operands.cfg.chain.deviceCount.toNat - idx - 1
    let idle := s.operands.cfg.idleCycles.toNat
    let n := 3 + idx + 3 + 32 + after + 2 + idle
    let ack := jtagAckRemap (wordOfBits 3 (((answers n s).drop (3 + idx)).take 3))
    (checkAck = true → ack = 0b001#3) →
    exec (.jtagTransfer request checkAck) s = .next
      { s with
        out := { s.out with swclkTck := true, swdioTms := false, tdi := true }
        cont := some { lastDrivenBit := true, lastModeSelectLevel := false }
        ack := some ack
        written := { s.written with ack := true }
        target := s.target.drop n
        samples := s.samples + n
        trace := s.trace ++
          jtagRun
            ([true, false, false] ++ levels (idx + 3 + 31 + after) false ++ [true] ++ [true, false] ++
              levels idle false)
            (levels (3 + idx) (contDrivenBit s) ++ [request.getLsbD 1, request.getLsbD 2, request.getLsbD 3] ++
              wordBits s.operands.data 32 ++ levels (after + 2 + idle) (s.operands.data.getLsbD 31))
            (answers n s)
            (levels (3 + idx) false ++ levels 3 true ++ levels (32 + after + 2 + idle) false) ++
          [.lvl .tdi true] }

/-- Tier 2. `JTAG_WRITE_ABORT` is `JTAG_TRANSFER` with an all-zero request and no acknowledge check, its acknowledge
dropped (R200). -/
def Obligations.JtagWriteAbortIsAZeroTransfer : Prop :=
  ∀ s : State, CanRun .jtagWriteAbort s →
    ∃ t, exec (.jtagTransfer 0 false) s = .next t ∧ exec .jtagWriteAbort s = .next { t with ack := s.ack, written := s.written }

/-- Tier 2. Start and end state (R173): the TMS levels of a composite operation, fed through the TAP diagram from
Run-Test/Idle, end in Run-Test/Idle; with its preamble `JTAG_READ_IDCODE` does so from every TAP state. -/
def Obligations.CompositeOperationsEndInIdle : Prop :=
  ∀ (i : Instr) (s t : State), isCompositeJtag i = true → exec i s = .next t →
    ∃ evs, t.trace = s.trace ++ evs ∧ tapAfter .runTestIdle (tmsLevels evs) = .runTestIdle ∧
      (i = .jtagReadIdcode → s.params.idcodeFromReset = true →
        ∀ tap, tapAfter tap (tmsLevels evs) = .runTestIdle)

/-- Tier 2. How many places the target's scan register shifts (R170, R174): each composite operation spends exactly
the cycles of its fillers and payload in Shift-DR or Shift-IR. -/
def Obligations.ScanRegistersShiftTheRightLength : Prop :=
  ∀ (s t : State) (evs : List Event), t.trace = s.trace ++ evs →
    let c := s.operands.cfg.chain
    let idx := c.deviceIndex.toNat
    let after := c.deviceCount.toNat - idx - 1
    let inDR := cyclesStartingIn .shiftDR .runTestIdle (tmsLevels evs)
    let inIR := cyclesStartingIn .shiftIR .runTestIdle (tmsLevels evs)
    (exec .jtagReadIdcode s = .next t → inDR = idx + 32 ∧ inIR = 0) ∧
    (exec .jtagIr s = .next t → inDR = 0 ∧
      ∃ len : Word, c.irLengthPerDevice[idx]? = some len ∧
        inIR = c.irBeforeBits.toNat + len.toNat + c.irAfterBits.toNat) ∧
    (exec .jtagDr s = .next t → inDR = idx + s.operands.count.toNat + after ∧ inIR = 0) ∧
    (exec .jtagWriteAbort s = .next t → inDR = idx + 35 + after ∧ inIR = 0) ∧
    (∀ request, exec (.jtagTransfer request false) s = .next t → inDR = idx + 35 + after ∧ inIR = 0) ∧
    (∀ request, exec (.jtagTransfer request true) s = .next t →
      inDR = (if t.ack = some 0b001#3 then idx + 35 + after else idx + 4) ∧ inIR = 0)

/-- Tier 2. The event counts of the JTAG operations (R202): how many `Clk` and `Lvl` events each composite operation
and the TMS sequence emit, and that no JTAG operation emits a `Dir` or an `En` event. -/
def Obligations.JtagEventCounts : Prop :=
  ∀ (i : Instr) (s t : State) (evs : List Event), exec i s = .next t → t.trace = s.trace ++ evs →
    let c := s.operands.cfg.chain
    let idx := c.deviceIndex.toNat
    let after := c.deviceCount.toNat - idx - 1
    let idle := s.operands.cfg.idleCycles.toNat
    (isCompositeJtag i = true ∨ (∃ info, i = .jtagSequence info) ∨ (i = .swjSequence ∧ s.mode = .jtag) →
      directionEvents evs = [] ∧ enableEvents evs = []) ∧
    (i = .jtagReadIdcode → levelEvents evs = [] ∧
      (clockEvents evs).length = (if s.params.idcodeFromReset then 6 else 0) + 3 + idx + 32 + 2) ∧
    (isCompositeJtag i = true → i ≠ .jtagReadIdcode →
      levelEvents evs = [.lvl .tdi true] ∧ evs.getLast? = some (.lvl .tdi true)) ∧
    (i = .jtagIr → ∃ len : Word, c.irLengthPerDevice[idx]? = some len ∧
      (clockEvents evs).length = 4 + c.irBeforeBits.toNat + len.toNat + c.irAfterBits.toNat + 2) ∧
    (i = .jtagDr → (clockEvents evs).length = 3 + idx + s.operands.count.toNat + after + 2) ∧
    (i = .jtagWriteAbort → (clockEvents evs).length = 3 + idx + 3 + 32 + after + 2 + idle) ∧
    (∀ request checkAck, i = .jtagTransfer request checkAck → (clockEvents evs).length =
      if checkAck = true ∧ t.ack ≠ some 0b001#3 then 3 + idx + 3 + 1 + 2 + idle
      else 3 + idx + 3 + 32 + after + 2 + idle) ∧
    (i = .swjSequence → s.mode = .jtag →
      levelEvents evs = [] ∧ (clockEvents evs).length = s.operands.count.toNat)

/-- Tier 1. The acknowledge remap (30_encoding.md R90): the two low wire bits are swapped, and the result is Ok for the
wire value `0b010` only. -/
def Obligations.AcknowledgeRemapSwapsTheLowBits : Prop :=
  ∀ w : BitVec 3,
    (jtagAckRemap w).getLsbD 0 = w.getLsbD 1 ∧ (jtagAckRemap w).getLsbD 1 = w.getLsbD 0 ∧
    (jtagAckRemap w).getLsbD 2 = w.getLsbD 2 ∧ (jtagAck (jtagAckRemap w) = .ok ↔ w = 0b010#3)

/-! ### The SWD Transaction Engine -/

/-- Tier 1. The request packet as a byte (R85): `0x81 | (request[3:0] << 1) | (P << 5)`, with `P` the exclusive or of
the four header bits. -/
def Obligations.PacketByteIsFramed : Prop :=
  ∀ request : Byte,
    wordOfBits 8 (packetBits request) =
      0x81#8 ||| ((request &&& 0x0F#8) <<< 1) |||
        ((BitVec.ofBool (request.getLsbD 0 ^^ request.getLsbD 1 ^^ request.getLsbD 2 ^^ request.getLsbD 3)).setWidth 8
          <<< 5)

/-- Tier 2. `SWD_TRANSFER` answered Ok, read (43_swd.md R228, R229 to R233, R235, R236, R241): the whole transaction
in order, `RDATA` the 32 samples, `PERR` and the Fault code on a parity mismatch. -/
def Obligations.SwdTransferReadsOnOk : Prop :=
  ∀ (s : State) (request : Byte), CanRun (.swdTransfer request) s → request.getLsbD 1 = true →
    let turn := Turnaround.cycles s.operands.cfg.swd.turnaroundCycles
    let idle := s.operands.cfg.idleCycles.toNat
    let n := turn + 3 + 33 + turn
    let a := answers n s
    let data := (a.drop (turn + 3)).take 33
    let v := wordOfBits 32 (data.take 32)
    let mismatch := data.getD 32 false != parity32 v
    (a.drop turn).take 3 = [true, false, false] →
    exec (.swdTransfer request) s = .next
      { s with
        oe := { s.oe with swdioTms := true }
        out := { s.out with swclkTck := true, swdioTms := true }
        cont := s.cont.map fun c => { c with lastDrivenBit := true }
        ack := some (if mismatch then 0b100#3 else 0b001#3)
        perr := some mismatch
        rdata := some v
        written := { s.written with ack := true, perr := true, rdata := true }
        target := s.target.drop n
        samples := s.samples + n
        trace := s.trace ++ [.dir .swdioTms true] ++ swdDriven (packetBits request) ++ [.dir .swdioTms false] ++
          swdReleased (a.take turn) false ++ swdReleased [true, false, false] true ++ swdReleased data true ++
          swdReleased (a.drop (turn + 36)) false ++ [.dir .swdioTms true] ++ swdDriven (levels idle false) ++
          [.lvl .swdioTms true] }

/-- Tier 2. `SWD_TRANSFER` answered Ok, write (R228, R229 to R231, R234, R235, R241): the turnaround before the data,
the 32 bits of `DATA` and its parity, the idle cycles, the park; `RDATA` is kept. -/
def Obligations.SwdTransferWritesOnOk : Prop :=
  ∀ (s : State) (request : Byte), CanRun (.swdTransfer request) s → request.getLsbD 1 = false →
    let turn := Turnaround.cycles s.operands.cfg.swd.turnaroundCycles
    let idle := s.operands.cfg.idleCycles.toNat
    let n := turn + 3 + turn
    let a := answers n s
    (a.drop turn).take 3 = [true, false, false] →
    exec (.swdTransfer request) s = .next
      { s with
        oe := { s.oe with swdioTms := true }
        out := { s.out with swclkTck := true, swdioTms := true }
        cont := s.cont.map fun c => { c with lastDrivenBit := true }
        ack := some 0b001#3
        perr := some false
        written := { s.written with ack := true, perr := true }
        target := s.target.drop n
        samples := s.samples + n
        trace := s.trace ++ [.dir .swdioTms true] ++ swdDriven (packetBits request) ++ [.dir .swdioTms false] ++
          swdReleased (a.take turn) false ++ swdReleased [true, false, false] true ++
          swdReleased (a.drop (turn + 3)) false ++ [.dir .swdioTms true] ++
          swdDriven (wordBits s.operands.data 32 ++ [parity32 s.operands.data]) ++ swdDriven (levels idle false) ++
          [.lvl .swdioTms true] }

/-- Tier 2. `SWD_TRANSFER` answered Wait or Fault (R238, R239, R241): the turnaround, 33 more released cycles for a
read and 33 driven zeros for a write when `dataPhaseOnError` is set, the park; no data, no idle cycles. -/
def Obligations.SwdTransferRecoversFromWaitAndFault : Prop :=
  ∀ (s : State) (request : Byte), CanRun (.swdTransfer request) s →
    let turn := Turnaround.cycles s.operands.cfg.swd.turnaroundCycles
    let d := s.operands.cfg.swd.dataPhaseOnError
    let rnw := request.getLsbD 1
    let n := turn + 3 + turn + (if d && rnw then 33 else 0)
    let a := answers n s
    let ack := (a.drop turn).take 3
    (ack = [false, true, false] ∨ ack = [false, false, true]) →
    exec (.swdTransfer request) s = .next
      { s with
        oe := { s.oe with swdioTms := true }
        out := { s.out with swclkTck := true, swdioTms := true }
        cont := s.cont.map fun c => { c with lastDrivenBit := true }
        ack := some (wordOfBits 3 ack)
        perr := some false
        written := { s.written with ack := true, perr := true }
        target := s.target.drop n
        samples := s.samples + n
        trace := s.trace ++ [.dir .swdioTms true] ++ swdDriven (packetBits request) ++ [.dir .swdioTms false] ++
          swdReleased (a.take turn) false ++ swdReleased ack true ++ swdReleased (a.drop (turn + 3)) false ++
          [.dir .swdioTms true] ++ swdDriven (levels (if d && !rnw then 33 else 0) false) ++ [.lvl .swdioTms true] }

/-- Tier 2. `SWD_TRANSFER` with a malformed acknowledge (R240, R241): `T + 33` released cycles whatever the request
and the configuration, the park; `ACK` is the pattern itself. -/
def Obligations.SwdTransferResynchronizesOnProtocolError : Prop :=
  ∀ (s : State) (request : Byte), CanRun (.swdTransfer request) s →
    let turn := Turnaround.cycles s.operands.cfg.swd.turnaroundCycles
    let n := turn + 3 + (turn + 33)
    let a := answers n s
    let ack := wordOfBits 3 ((a.drop turn).take 3)
    ack ≠ 1#3 → ack ≠ 2#3 → ack ≠ 4#3 →
    exec (.swdTransfer request) s = .next
      { s with
        oe := { s.oe with swdioTms := true }
        out := { s.out with swclkTck := true, swdioTms := true }
        cont := s.cont.map fun c => { c with lastDrivenBit := true }
        ack := some ack
        perr := some false
        written := { s.written with ack := true, perr := true }
        target := s.target.drop n
        samples := s.samples + n
        trace := s.trace ++ [.dir .swdioTms true] ++ swdDriven (packetBits request) ++ [.dir .swdioTms false] ++
          swdReleased (a.take turn) false ++ swdReleased ((a.drop turn).take 3) true ++
          swdReleased (a.drop (turn + 3)) false ++ [.dir .swdioTms true] ++ [.lvl .swdioTms true] }

/-- Tier 2. Finish (R241, R242): after every transfer the last event is `Lvl(SWDIO_TMS, 1)`, SWDIO is an output at 1,
the clock is high, the continuation bit is 1 and the mode-select field is unchanged. -/
def Obligations.SwdTransferAlwaysParksHigh : Prop :=
  ∀ (s t : State) (request : Byte), exec (.swdTransfer request) s = .next t →
    t.trace.getLast? = some (.lvl .swdioTms true) ∧ t.oe.swdioTms = true ∧ t.out.swdioTms = true ∧
    t.out.swclkTck = true ∧ contDrivenBit t = true ∧ contModeSelect t = contModeSelect s ∧
    t.operands.data = s.operands.data

/-- Tier 2. The event counts of a transfer (R245): the `Clk` events by acknowledge, exactly three `Dir` events (out,
in, out), exactly one `Lvl` event, the last. -/
def Obligations.SwdEventCounts : Prop :=
  ∀ (s t : State) (request : Byte) (evs : List Event), exec (.swdTransfer request) s = .next t →
    t.trace = s.trace ++ evs →
    let turn := Turnaround.cycles s.operands.cfg.swd.turnaroundCycles
    let idle := s.operands.cfg.idleCycles.toNat
    let ack := wordOfBits 3 ((answers (turn + 3) s).drop turn)
    (clockEvents evs).length =
      (if ack = 1#3 then 44 + 2 * turn + idle
      else if (ack = 2#3 ∨ ack = 4#3) ∧ s.operands.cfg.swd.dataPhaseOnError = false then 11 + 2 * turn
      else 44 + 2 * turn) ∧
    directionEvents evs = [.dir .swdioTms true, .dir .swdioTms false, .dir .swdioTms true] ∧
    levelEvents evs = [.lvl .swdioTms true] ∧ evs.getLast? = some (.lvl .swdioTms true)

/-- Tier 2. Parity and its round trip (R220, R223): `parity32` is the exclusive or of the 32 bits, 1 for an odd number of
ones (C6), with the seven examples of R220, and `parity4` that of its four bits; for each of the four turnarounds of R34, the 33 bits a write drives for `v`,
presented as the samples of an Ok read, give `RDATA = v`, `PERR = 0` and `ACK = 1`; with the parity bit complemented they
give `PERR = 1` and `ACK = 4`, `RDATA = v` all the same. -/
def Obligations.WrittenDataReadsBack : Prop :=
  (∀ v : Word, parity32 v = decide (((List.range 32).filter fun i => v.getLsbD i).length % 2 = 1)) ∧
  parity32 0x00000000 = false ∧ parity32 0x00000001 = true ∧ parity32 0x80000000 = true ∧
  parity32 0xFFFFFFFF = false ∧ parity32 0xA5A5A5A5 = false ∧ parity32 0x12345678 = true ∧
  parity32 0x2BA01477 = false ∧
  (∀ h : BitVec 4, parity4 h = (h.getLsbD 0 ^^ h.getLsbD 1 ^^ h.getLsbD 2 ^^ h.getLsbD 3)) ∧
  ∀ (s : State) (request : Byte) (v : Word) (turn : Nat), CanRun (.swdTransfer request) s → request.getLsbD 1 = true →
    ((s.operands.cfg.swd.turnaroundCycles, turn) ∈
      [(Turnaround.one, 1), (Turnaround.two, 2), (Turnaround.three, 3), (Turnaround.four, 4)]) →
    ((answers (turn + 36) s).drop turn = [true, false, false] ++ writeDataBits v →
      ∃ t, exec (.swdTransfer request) s = .next t ∧
        readRdata t = .ok v ∧ readPerr t = .ok false ∧ readAck t = .ok 0b001#3) ∧
    ((answers (turn + 36) s).drop turn = [true, false, false] ++ wordBits v 32 ++ [!parity32 v] →
      ∃ t, exec (.swdTransfer request) s = .next t ∧
        readRdata t = .ok v ∧ readPerr t = .ok true ∧ readAck t = .ok 0b100#3)

/-! ### The pin accessors -/

/-- Tier 1. The accessors that write a latch (40_line_driver.md R120 to R122, R125, R127 to R129) in every mode: the
latch, one `Lvl` event, and the continuation state as R118 says; everything else unchanged. -/
def Obligations.PinAccessorsSetLatches : Prop :=
  ∀ (s : State) (b : Bool) (ignored : BitVec 7),
    let tmsCont (b : Bool) :=
      if s.mode = .jtag then s.cont.map fun c => { c with lastModeSelectLevel := b }
      else if s.mode = .swd ∧ s.oe.swdioTms = true then s.cont.map fun c => { c with lastDrivenBit := b }
      else s.cont
    let tms (b : Bool) : State :=
      { s with out := { s.out with swdioTms := b }, cont := tmsCont b, trace := s.trace ++ [.lvl .swdioTms b] }
    exec .pinSwclkTckSet s = .next
      { s with out := { s.out with swclkTck := true }, trace := s.trace ++ [.lvl .swclkTck true] } ∧
    exec .pinSwclkTckClr s = .next
      { s with out := { s.out with swclkTck := false }, trace := s.trace ++ [.lvl .swclkTck false] } ∧
    exec (.pinSwdioOut b ignored) s = .next (tms b) ∧ exec .pinSwdioTmsSet s = .next (tms true) ∧
    exec .pinSwdioTmsClr s = .next (tms false) ∧
    exec (.pinTdiOut b ignored) s = .next
      { s with
        out := { s.out with tdi := b }
        cont := if s.mode = .jtag then s.cont.map fun c => { c with lastDrivenBit := b } else s.cont
        trace := s.trace ++ [.lvl .tdi b] } ∧
    exec (.pinNResetOut b ignored) s = .next
      { s with out := { s.out with nReset := b }, trace := s.trace ++ [.lvl .nReset b] }

/-- Tier 1. The accessors that switch SWDIO (R123, R124, R118): the direction, one `Dir` event, and in SWD mode an
enabled output places the latch on the wire. -/
def Obligations.PinAccessorsSwitchDirection : Prop :=
  ∀ s : State,
    exec .pinSwdioOutEnable s = .next
      { s with
        oe := { s.oe with swdioTms := true }
        cont := if s.mode = .swd then s.cont.map fun c => { c with lastDrivenBit := s.out.swdioTms } else s.cont
        trace := s.trace ++ [.dir .swdioTms true] } ∧
    exec .pinSwdioOutDisable s = .next
      { s with oe := { s.oe with swdioTms := false }, trace := s.trace ++ [.dir .swdioTms false] }

/-- Tier 1. The accessors that read a pin (R126, R130 to R133, R28): a driven pin reads its latch and changes nothing
but `RBIT`; any other pin reads the oracle's next level. No event is emitted. -/
def Obligations.PinAccessorsReadPins : Prop :=
  ∀ s : State,
    let read (l : Line) : State :=
      if s.enabled = true ∧ s.oe.get l = true then
        { s with rbit := some (s.out.get l), written := { s.written with rbit := true } }
      else
        { s with
          rbit := some (oracleLevel s), written := { s.written with rbit := true }
          target := s.target.tail, samples := s.samples + 1 }
    exec .pinTdoIn s = .next (read .tdo) ∧ exec .pinSwdioIn s = .next (read .swdioTms) ∧
    exec .pinSwclkTckIn s = .next (read .swclkTck) ∧ exec .pinTdiIn s = .next (read .tdi) ∧
    exec .pinNResetIn s = .next (read .nReset)
end

