-- ==== Sys2Proof/Laws/State.lean ====
section
/-! SUPPORT. One lemma per field per update of the state, each true by `rfl`, so that no proof unfolds an update. -/

namespace Sys2Proof.Machine

@[simp] theorem emit_mode (e : Event) (s : State) : (emit e s).mode = s.mode := rfl
@[simp] theorem emit_cont (e : Event) (s : State) : (emit e s).cont = s.cont := rfl
@[simp] theorem emit_out (e : Event) (s : State) : (emit e s).out = s.out := rfl
@[simp] theorem emit_oe (e : Event) (s : State) : (emit e s).oe = s.oe := rfl
@[simp] theorem emit_enabled (e : Event) (s : State) : (emit e s).enabled = s.enabled := rfl
@[simp] theorem emit_src (e : Event) (s : State) : (emit e s).src = s.src := rfl
@[simp] theorem emit_slew (e : Event) (s : State) : (emit e s).slew = s.slew := rfl
@[simp] theorem emit_shiftOwner (e : Event) (s : State) : (emit e s).shiftOwner = s.shiftOwner := rfl
@[simp] theorem emit_ack (e : Event) (s : State) : (emit e s).ack = s.ack := rfl
@[simp] theorem emit_perr (e : Event) (s : State) : (emit e s).perr = s.perr := rfl
@[simp] theorem emit_ok (e : Event) (s : State) : (emit e s).ok = s.ok := rfl
@[simp] theorem emit_rdata (e : Event) (s : State) : (emit e s).rdata = s.rdata := rfl
@[simp] theorem emit_rxbuf (e : Event) (s : State) : (emit e s).rxbuf = s.rxbuf := rfl
@[simp] theorem emit_rbit (e : Event) (s : State) : (emit e s).rbit = s.rbit := rfl
@[simp] theorem emit_written (e : Event) (s : State) : (emit e s).written = s.written := rfl
@[simp] theorem emit_operands (e : Event) (s : State) : (emit e s).operands = s.operands := rfl
@[simp] theorem emit_params (e : Event) (s : State) : (emit e s).params = s.params := rfl
@[simp] theorem emit_program (e : Event) (s : State) : (emit e s).program = s.program := rfl
@[simp] theorem emit_target (e : Event) (s : State) : (emit e s).target = s.target := rfl
@[simp] theorem emit_samples (e : Event) (s : State) : (emit e s).samples = s.samples := rfl
@[simp] theorem emit_engineReady (e : Event) (s : State) : (emit e s).engineReady = s.engineReady := rfl
@[simp] theorem emit_trace (e : Event) (s : State) : (emit e s).trace = s.trace ++ [e] := rfl

@[simp] theorem consumeSample_mode (s : State) : (consumeSample s).mode = s.mode := rfl
@[simp] theorem consumeSample_cont (s : State) : (consumeSample s).cont = s.cont := rfl
@[simp] theorem consumeSample_out (s : State) : (consumeSample s).out = s.out := rfl
@[simp] theorem consumeSample_oe (s : State) : (consumeSample s).oe = s.oe := rfl
@[simp] theorem consumeSample_enabled (s : State) : (consumeSample s).enabled = s.enabled := rfl
@[simp] theorem consumeSample_src (s : State) : (consumeSample s).src = s.src := rfl
@[simp] theorem consumeSample_slew (s : State) : (consumeSample s).slew = s.slew := rfl
@[simp] theorem consumeSample_shiftOwner (s : State) : (consumeSample s).shiftOwner = s.shiftOwner := rfl
@[simp] theorem consumeSample_ack (s : State) : (consumeSample s).ack = s.ack := rfl
@[simp] theorem consumeSample_perr (s : State) : (consumeSample s).perr = s.perr := rfl
@[simp] theorem consumeSample_ok (s : State) : (consumeSample s).ok = s.ok := rfl
@[simp] theorem consumeSample_rdata (s : State) : (consumeSample s).rdata = s.rdata := rfl
@[simp] theorem consumeSample_rxbuf (s : State) : (consumeSample s).rxbuf = s.rxbuf := rfl
@[simp] theorem consumeSample_rbit (s : State) : (consumeSample s).rbit = s.rbit := rfl
@[simp] theorem consumeSample_written (s : State) : (consumeSample s).written = s.written := rfl
@[simp] theorem consumeSample_operands (s : State) : (consumeSample s).operands = s.operands := rfl
@[simp] theorem consumeSample_params (s : State) : (consumeSample s).params = s.params := rfl
@[simp] theorem consumeSample_program (s : State) : (consumeSample s).program = s.program := rfl
@[simp] theorem consumeSample_target (s : State) : (consumeSample s).target = s.target.tail := rfl
@[simp] theorem consumeSample_samples (s : State) : (consumeSample s).samples = s.samples + 1 := rfl
@[simp] theorem consumeSample_engineReady (s : State) : (consumeSample s).engineReady = s.engineReady := rfl
@[simp] theorem consumeSample_trace (s : State) : (consumeSample s).trace = s.trace := rfl

@[simp] theorem setContDriven_mode (b : Level) (s : State) : (setContDriven b s).mode = s.mode := rfl
@[simp] theorem setContDriven_cont (b : Level) (s : State) : (setContDriven b s).cont = s.cont.map fun c => { c with lastDrivenBit := b } := rfl
@[simp] theorem setContDriven_out (b : Level) (s : State) : (setContDriven b s).out = s.out := rfl
@[simp] theorem setContDriven_oe (b : Level) (s : State) : (setContDriven b s).oe = s.oe := rfl
@[simp] theorem setContDriven_enabled (b : Level) (s : State) : (setContDriven b s).enabled = s.enabled := rfl
@[simp] theorem setContDriven_src (b : Level) (s : State) : (setContDriven b s).src = s.src := rfl
@[simp] theorem setContDriven_slew (b : Level) (s : State) : (setContDriven b s).slew = s.slew := rfl
@[simp] theorem setContDriven_shiftOwner (b : Level) (s : State) : (setContDriven b s).shiftOwner = s.shiftOwner := rfl
@[simp] theorem setContDriven_ack (b : Level) (s : State) : (setContDriven b s).ack = s.ack := rfl
@[simp] theorem setContDriven_perr (b : Level) (s : State) : (setContDriven b s).perr = s.perr := rfl
@[simp] theorem setContDriven_ok (b : Level) (s : State) : (setContDriven b s).ok = s.ok := rfl
@[simp] theorem setContDriven_rdata (b : Level) (s : State) : (setContDriven b s).rdata = s.rdata := rfl
@[simp] theorem setContDriven_rxbuf (b : Level) (s : State) : (setContDriven b s).rxbuf = s.rxbuf := rfl
@[simp] theorem setContDriven_rbit (b : Level) (s : State) : (setContDriven b s).rbit = s.rbit := rfl
@[simp] theorem setContDriven_written (b : Level) (s : State) : (setContDriven b s).written = s.written := rfl
@[simp] theorem setContDriven_operands (b : Level) (s : State) : (setContDriven b s).operands = s.operands := rfl
@[simp] theorem setContDriven_params (b : Level) (s : State) : (setContDriven b s).params = s.params := rfl
@[simp] theorem setContDriven_program (b : Level) (s : State) : (setContDriven b s).program = s.program := rfl
@[simp] theorem setContDriven_target (b : Level) (s : State) : (setContDriven b s).target = s.target := rfl
@[simp] theorem setContDriven_samples (b : Level) (s : State) : (setContDriven b s).samples = s.samples := rfl
@[simp] theorem setContDriven_engineReady (b : Level) (s : State) : (setContDriven b s).engineReady = s.engineReady := rfl
@[simp] theorem setContDriven_trace (b : Level) (s : State) : (setContDriven b s).trace = s.trace := rfl

@[simp] theorem setContModeSelect_mode (b : Level) (s : State) : (setContModeSelect b s).mode = s.mode := rfl
@[simp] theorem setContModeSelect_cont (b : Level) (s : State) : (setContModeSelect b s).cont = s.cont.map fun c => { c with lastModeSelectLevel := b } := rfl
@[simp] theorem setContModeSelect_out (b : Level) (s : State) : (setContModeSelect b s).out = s.out := rfl
@[simp] theorem setContModeSelect_oe (b : Level) (s : State) : (setContModeSelect b s).oe = s.oe := rfl
@[simp] theorem setContModeSelect_enabled (b : Level) (s : State) : (setContModeSelect b s).enabled = s.enabled := rfl
@[simp] theorem setContModeSelect_src (b : Level) (s : State) : (setContModeSelect b s).src = s.src := rfl
@[simp] theorem setContModeSelect_slew (b : Level) (s : State) : (setContModeSelect b s).slew = s.slew := rfl
@[simp] theorem setContModeSelect_shiftOwner (b : Level) (s : State) : (setContModeSelect b s).shiftOwner = s.shiftOwner := rfl
@[simp] theorem setContModeSelect_ack (b : Level) (s : State) : (setContModeSelect b s).ack = s.ack := rfl
@[simp] theorem setContModeSelect_perr (b : Level) (s : State) : (setContModeSelect b s).perr = s.perr := rfl
@[simp] theorem setContModeSelect_ok (b : Level) (s : State) : (setContModeSelect b s).ok = s.ok := rfl
@[simp] theorem setContModeSelect_rdata (b : Level) (s : State) : (setContModeSelect b s).rdata = s.rdata := rfl
@[simp] theorem setContModeSelect_rxbuf (b : Level) (s : State) : (setContModeSelect b s).rxbuf = s.rxbuf := rfl
@[simp] theorem setContModeSelect_rbit (b : Level) (s : State) : (setContModeSelect b s).rbit = s.rbit := rfl
@[simp] theorem setContModeSelect_written (b : Level) (s : State) : (setContModeSelect b s).written = s.written := rfl
@[simp] theorem setContModeSelect_operands (b : Level) (s : State) : (setContModeSelect b s).operands = s.operands := rfl
@[simp] theorem setContModeSelect_params (b : Level) (s : State) : (setContModeSelect b s).params = s.params := rfl
@[simp] theorem setContModeSelect_program (b : Level) (s : State) : (setContModeSelect b s).program = s.program := rfl
@[simp] theorem setContModeSelect_target (b : Level) (s : State) : (setContModeSelect b s).target = s.target := rfl
@[simp] theorem setContModeSelect_samples (b : Level) (s : State) : (setContModeSelect b s).samples = s.samples := rfl
@[simp] theorem setContModeSelect_engineReady (b : Level) (s : State) : (setContModeSelect b s).engineReady = s.engineReady := rfl
@[simp] theorem setContModeSelect_trace (b : Level) (s : State) : (setContModeSelect b s).trace = s.trace := rfl

@[simp] theorem linesEnable_mode (e : Bool) (s : State) : (linesEnable e s).mode = s.mode := rfl
@[simp] theorem linesEnable_cont (e : Bool) (s : State) : (linesEnable e s).cont = s.cont := rfl
@[simp] theorem linesEnable_out (e : Bool) (s : State) : (linesEnable e s).out = s.out := rfl
@[simp] theorem linesEnable_oe (e : Bool) (s : State) : (linesEnable e s).oe = s.oe := rfl
@[simp] theorem linesEnable_enabled (e : Bool) (s : State) : (linesEnable e s).enabled = e := rfl
@[simp] theorem linesEnable_src (e : Bool) (s : State) : (linesEnable e s).src = s.src := rfl
@[simp] theorem linesEnable_slew (e : Bool) (s : State) : (linesEnable e s).slew = s.slew := rfl
@[simp] theorem linesEnable_shiftOwner (e : Bool) (s : State) : (linesEnable e s).shiftOwner = s.shiftOwner := rfl
@[simp] theorem linesEnable_ack (e : Bool) (s : State) : (linesEnable e s).ack = s.ack := rfl
@[simp] theorem linesEnable_perr (e : Bool) (s : State) : (linesEnable e s).perr = s.perr := rfl
@[simp] theorem linesEnable_ok (e : Bool) (s : State) : (linesEnable e s).ok = s.ok := rfl
@[simp] theorem linesEnable_rdata (e : Bool) (s : State) : (linesEnable e s).rdata = s.rdata := rfl
@[simp] theorem linesEnable_rxbuf (e : Bool) (s : State) : (linesEnable e s).rxbuf = s.rxbuf := rfl
@[simp] theorem linesEnable_rbit (e : Bool) (s : State) : (linesEnable e s).rbit = s.rbit := rfl
@[simp] theorem linesEnable_written (e : Bool) (s : State) : (linesEnable e s).written = s.written := rfl
@[simp] theorem linesEnable_operands (e : Bool) (s : State) : (linesEnable e s).operands = s.operands := rfl
@[simp] theorem linesEnable_params (e : Bool) (s : State) : (linesEnable e s).params = s.params := rfl
@[simp] theorem linesEnable_program (e : Bool) (s : State) : (linesEnable e s).program = s.program := rfl
@[simp] theorem linesEnable_target (e : Bool) (s : State) : (linesEnable e s).target = s.target := rfl
@[simp] theorem linesEnable_samples (e : Bool) (s : State) : (linesEnable e s).samples = s.samples := rfl
@[simp] theorem linesEnable_engineReady (e : Bool) (s : State) : (linesEnable e s).engineReady = s.engineReady := rfl
@[simp] theorem linesEnable_trace (e : Bool) (s : State) : (linesEnable e s).trace = s.trace ++ [.en e] := rfl

@[simp] theorem storeCapture_mode (bits : List Level) (s : State) : (storeCapture bits s).mode = s.mode := rfl
@[simp] theorem storeCapture_cont (bits : List Level) (s : State) : (storeCapture bits s).cont = s.cont := rfl
@[simp] theorem storeCapture_out (bits : List Level) (s : State) : (storeCapture bits s).out = s.out := rfl
@[simp] theorem storeCapture_oe (bits : List Level) (s : State) : (storeCapture bits s).oe = s.oe := rfl
@[simp] theorem storeCapture_enabled (bits : List Level) (s : State) : (storeCapture bits s).enabled = s.enabled := rfl
@[simp] theorem storeCapture_src (bits : List Level) (s : State) : (storeCapture bits s).src = s.src := rfl
@[simp] theorem storeCapture_slew (bits : List Level) (s : State) : (storeCapture bits s).slew = s.slew := rfl
@[simp] theorem storeCapture_shiftOwner (bits : List Level) (s : State) : (storeCapture bits s).shiftOwner = s.shiftOwner := rfl
@[simp] theorem storeCapture_ack (bits : List Level) (s : State) : (storeCapture bits s).ack = s.ack := rfl
@[simp] theorem storeCapture_perr (bits : List Level) (s : State) : (storeCapture bits s).perr = s.perr := rfl
@[simp] theorem storeCapture_ok (bits : List Level) (s : State) : (storeCapture bits s).ok = s.ok := rfl
@[simp] theorem storeCapture_rdata (bits : List Level) (s : State) : (storeCapture bits s).rdata = s.rdata := rfl
@[simp] theorem storeCapture_rxbuf (bits : List Level) (s : State) : (storeCapture bits s).rxbuf = Mem.writeBytes s.rxbuf 0 (packBytes bits) := rfl
@[simp] theorem storeCapture_rbit (bits : List Level) (s : State) : (storeCapture bits s).rbit = s.rbit := rfl
@[simp] theorem storeCapture_written (bits : List Level) (s : State) : (storeCapture bits s).written = { s.written with rxBytes := byteCount bits.length } := rfl
@[simp] theorem storeCapture_operands (bits : List Level) (s : State) : (storeCapture bits s).operands = s.operands := rfl
@[simp] theorem storeCapture_params (bits : List Level) (s : State) : (storeCapture bits s).params = s.params := rfl
@[simp] theorem storeCapture_program (bits : List Level) (s : State) : (storeCapture bits s).program = s.program := rfl
@[simp] theorem storeCapture_target (bits : List Level) (s : State) : (storeCapture bits s).target = s.target := rfl
@[simp] theorem storeCapture_samples (bits : List Level) (s : State) : (storeCapture bits s).samples = s.samples := rfl
@[simp] theorem storeCapture_engineReady (bits : List Level) (s : State) : (storeCapture bits s).engineReady = s.engineReady := rfl
@[simp] theorem storeCapture_trace (bits : List Level) (s : State) : (storeCapture bits s).trace = s.trace := rfl

@[simp] theorem writeAck_mode (a : BitVec 3) (s : State) : (writeAck a s).mode = s.mode := rfl
@[simp] theorem writeAck_cont (a : BitVec 3) (s : State) : (writeAck a s).cont = s.cont := rfl
@[simp] theorem writeAck_out (a : BitVec 3) (s : State) : (writeAck a s).out = s.out := rfl
@[simp] theorem writeAck_oe (a : BitVec 3) (s : State) : (writeAck a s).oe = s.oe := rfl
@[simp] theorem writeAck_enabled (a : BitVec 3) (s : State) : (writeAck a s).enabled = s.enabled := rfl
@[simp] theorem writeAck_src (a : BitVec 3) (s : State) : (writeAck a s).src = s.src := rfl
@[simp] theorem writeAck_slew (a : BitVec 3) (s : State) : (writeAck a s).slew = s.slew := rfl
@[simp] theorem writeAck_shiftOwner (a : BitVec 3) (s : State) : (writeAck a s).shiftOwner = s.shiftOwner := rfl
@[simp] theorem writeAck_ack (a : BitVec 3) (s : State) : (writeAck a s).ack = some a := rfl
@[simp] theorem writeAck_perr (a : BitVec 3) (s : State) : (writeAck a s).perr = s.perr := rfl
@[simp] theorem writeAck_ok (a : BitVec 3) (s : State) : (writeAck a s).ok = s.ok := rfl
@[simp] theorem writeAck_rdata (a : BitVec 3) (s : State) : (writeAck a s).rdata = s.rdata := rfl
@[simp] theorem writeAck_rxbuf (a : BitVec 3) (s : State) : (writeAck a s).rxbuf = s.rxbuf := rfl
@[simp] theorem writeAck_rbit (a : BitVec 3) (s : State) : (writeAck a s).rbit = s.rbit := rfl
@[simp] theorem writeAck_written (a : BitVec 3) (s : State) : (writeAck a s).written = { s.written with ack := true } := rfl
@[simp] theorem writeAck_operands (a : BitVec 3) (s : State) : (writeAck a s).operands = s.operands := rfl
@[simp] theorem writeAck_params (a : BitVec 3) (s : State) : (writeAck a s).params = s.params := rfl
@[simp] theorem writeAck_program (a : BitVec 3) (s : State) : (writeAck a s).program = s.program := rfl
@[simp] theorem writeAck_target (a : BitVec 3) (s : State) : (writeAck a s).target = s.target := rfl
@[simp] theorem writeAck_samples (a : BitVec 3) (s : State) : (writeAck a s).samples = s.samples := rfl
@[simp] theorem writeAck_engineReady (a : BitVec 3) (s : State) : (writeAck a s).engineReady = s.engineReady := rfl
@[simp] theorem writeAck_trace (a : BitVec 3) (s : State) : (writeAck a s).trace = s.trace := rfl

@[simp] theorem writePerr_mode (e : Bool) (s : State) : (writePerr e s).mode = s.mode := rfl
@[simp] theorem writePerr_cont (e : Bool) (s : State) : (writePerr e s).cont = s.cont := rfl
@[simp] theorem writePerr_out (e : Bool) (s : State) : (writePerr e s).out = s.out := rfl
@[simp] theorem writePerr_oe (e : Bool) (s : State) : (writePerr e s).oe = s.oe := rfl
@[simp] theorem writePerr_enabled (e : Bool) (s : State) : (writePerr e s).enabled = s.enabled := rfl
@[simp] theorem writePerr_src (e : Bool) (s : State) : (writePerr e s).src = s.src := rfl
@[simp] theorem writePerr_slew (e : Bool) (s : State) : (writePerr e s).slew = s.slew := rfl
@[simp] theorem writePerr_shiftOwner (e : Bool) (s : State) : (writePerr e s).shiftOwner = s.shiftOwner := rfl
@[simp] theorem writePerr_ack (e : Bool) (s : State) : (writePerr e s).ack = s.ack := rfl
@[simp] theorem writePerr_perr (e : Bool) (s : State) : (writePerr e s).perr = some e := rfl
@[simp] theorem writePerr_ok (e : Bool) (s : State) : (writePerr e s).ok = s.ok := rfl
@[simp] theorem writePerr_rdata (e : Bool) (s : State) : (writePerr e s).rdata = s.rdata := rfl
@[simp] theorem writePerr_rxbuf (e : Bool) (s : State) : (writePerr e s).rxbuf = s.rxbuf := rfl
@[simp] theorem writePerr_rbit (e : Bool) (s : State) : (writePerr e s).rbit = s.rbit := rfl
@[simp] theorem writePerr_written (e : Bool) (s : State) : (writePerr e s).written = { s.written with perr := true } := rfl
@[simp] theorem writePerr_operands (e : Bool) (s : State) : (writePerr e s).operands = s.operands := rfl
@[simp] theorem writePerr_params (e : Bool) (s : State) : (writePerr e s).params = s.params := rfl
@[simp] theorem writePerr_program (e : Bool) (s : State) : (writePerr e s).program = s.program := rfl
@[simp] theorem writePerr_target (e : Bool) (s : State) : (writePerr e s).target = s.target := rfl
@[simp] theorem writePerr_samples (e : Bool) (s : State) : (writePerr e s).samples = s.samples := rfl
@[simp] theorem writePerr_engineReady (e : Bool) (s : State) : (writePerr e s).engineReady = s.engineReady := rfl
@[simp] theorem writePerr_trace (e : Bool) (s : State) : (writePerr e s).trace = s.trace := rfl

@[simp] theorem writeOk_mode (k : Bool) (s : State) : (writeOk k s).mode = s.mode := rfl
@[simp] theorem writeOk_cont (k : Bool) (s : State) : (writeOk k s).cont = s.cont := rfl
@[simp] theorem writeOk_out (k : Bool) (s : State) : (writeOk k s).out = s.out := rfl
@[simp] theorem writeOk_oe (k : Bool) (s : State) : (writeOk k s).oe = s.oe := rfl
@[simp] theorem writeOk_enabled (k : Bool) (s : State) : (writeOk k s).enabled = s.enabled := rfl
@[simp] theorem writeOk_src (k : Bool) (s : State) : (writeOk k s).src = s.src := rfl
@[simp] theorem writeOk_slew (k : Bool) (s : State) : (writeOk k s).slew = s.slew := rfl
@[simp] theorem writeOk_shiftOwner (k : Bool) (s : State) : (writeOk k s).shiftOwner = s.shiftOwner := rfl
@[simp] theorem writeOk_ack (k : Bool) (s : State) : (writeOk k s).ack = s.ack := rfl
@[simp] theorem writeOk_perr (k : Bool) (s : State) : (writeOk k s).perr = s.perr := rfl
@[simp] theorem writeOk_ok (k : Bool) (s : State) : (writeOk k s).ok = some k := rfl
@[simp] theorem writeOk_rdata (k : Bool) (s : State) : (writeOk k s).rdata = s.rdata := rfl
@[simp] theorem writeOk_rxbuf (k : Bool) (s : State) : (writeOk k s).rxbuf = s.rxbuf := rfl
@[simp] theorem writeOk_rbit (k : Bool) (s : State) : (writeOk k s).rbit = s.rbit := rfl
@[simp] theorem writeOk_written (k : Bool) (s : State) : (writeOk k s).written = { s.written with ok := true } := rfl
@[simp] theorem writeOk_operands (k : Bool) (s : State) : (writeOk k s).operands = s.operands := rfl
@[simp] theorem writeOk_params (k : Bool) (s : State) : (writeOk k s).params = s.params := rfl
@[simp] theorem writeOk_program (k : Bool) (s : State) : (writeOk k s).program = s.program := rfl
@[simp] theorem writeOk_target (k : Bool) (s : State) : (writeOk k s).target = s.target := rfl
@[simp] theorem writeOk_samples (k : Bool) (s : State) : (writeOk k s).samples = s.samples := rfl
@[simp] theorem writeOk_engineReady (k : Bool) (s : State) : (writeOk k s).engineReady = s.engineReady := rfl
@[simp] theorem writeOk_trace (k : Bool) (s : State) : (writeOk k s).trace = s.trace := rfl

@[simp] theorem writeRdata_mode (v : Word) (s : State) : (writeRdata v s).mode = s.mode := rfl
@[simp] theorem writeRdata_cont (v : Word) (s : State) : (writeRdata v s).cont = s.cont := rfl
@[simp] theorem writeRdata_out (v : Word) (s : State) : (writeRdata v s).out = s.out := rfl
@[simp] theorem writeRdata_oe (v : Word) (s : State) : (writeRdata v s).oe = s.oe := rfl
@[simp] theorem writeRdata_enabled (v : Word) (s : State) : (writeRdata v s).enabled = s.enabled := rfl
@[simp] theorem writeRdata_src (v : Word) (s : State) : (writeRdata v s).src = s.src := rfl
@[simp] theorem writeRdata_slew (v : Word) (s : State) : (writeRdata v s).slew = s.slew := rfl
@[simp] theorem writeRdata_shiftOwner (v : Word) (s : State) : (writeRdata v s).shiftOwner = s.shiftOwner := rfl
@[simp] theorem writeRdata_ack (v : Word) (s : State) : (writeRdata v s).ack = s.ack := rfl
@[simp] theorem writeRdata_perr (v : Word) (s : State) : (writeRdata v s).perr = s.perr := rfl
@[simp] theorem writeRdata_ok (v : Word) (s : State) : (writeRdata v s).ok = s.ok := rfl
@[simp] theorem writeRdata_rdata (v : Word) (s : State) : (writeRdata v s).rdata = some v := rfl
@[simp] theorem writeRdata_rxbuf (v : Word) (s : State) : (writeRdata v s).rxbuf = s.rxbuf := rfl
@[simp] theorem writeRdata_rbit (v : Word) (s : State) : (writeRdata v s).rbit = s.rbit := rfl
@[simp] theorem writeRdata_written (v : Word) (s : State) : (writeRdata v s).written = { s.written with rdata := true } := rfl
@[simp] theorem writeRdata_operands (v : Word) (s : State) : (writeRdata v s).operands = s.operands := rfl
@[simp] theorem writeRdata_params (v : Word) (s : State) : (writeRdata v s).params = s.params := rfl
@[simp] theorem writeRdata_program (v : Word) (s : State) : (writeRdata v s).program = s.program := rfl
@[simp] theorem writeRdata_target (v : Word) (s : State) : (writeRdata v s).target = s.target := rfl
@[simp] theorem writeRdata_samples (v : Word) (s : State) : (writeRdata v s).samples = s.samples := rfl
@[simp] theorem writeRdata_engineReady (v : Word) (s : State) : (writeRdata v s).engineReady = s.engineReady := rfl
@[simp] theorem writeRdata_trace (v : Word) (s : State) : (writeRdata v s).trace = s.trace := rfl

@[simp] theorem writeRbit_mode (b : Level) (s : State) : (writeRbit b s).mode = s.mode := rfl
@[simp] theorem writeRbit_cont (b : Level) (s : State) : (writeRbit b s).cont = s.cont := rfl
@[simp] theorem writeRbit_out (b : Level) (s : State) : (writeRbit b s).out = s.out := rfl
@[simp] theorem writeRbit_oe (b : Level) (s : State) : (writeRbit b s).oe = s.oe := rfl
@[simp] theorem writeRbit_enabled (b : Level) (s : State) : (writeRbit b s).enabled = s.enabled := rfl
@[simp] theorem writeRbit_src (b : Level) (s : State) : (writeRbit b s).src = s.src := rfl
@[simp] theorem writeRbit_slew (b : Level) (s : State) : (writeRbit b s).slew = s.slew := rfl
@[simp] theorem writeRbit_shiftOwner (b : Level) (s : State) : (writeRbit b s).shiftOwner = s.shiftOwner := rfl
@[simp] theorem writeRbit_ack (b : Level) (s : State) : (writeRbit b s).ack = s.ack := rfl
@[simp] theorem writeRbit_perr (b : Level) (s : State) : (writeRbit b s).perr = s.perr := rfl
@[simp] theorem writeRbit_ok (b : Level) (s : State) : (writeRbit b s).ok = s.ok := rfl
@[simp] theorem writeRbit_rdata (b : Level) (s : State) : (writeRbit b s).rdata = s.rdata := rfl
@[simp] theorem writeRbit_rxbuf (b : Level) (s : State) : (writeRbit b s).rxbuf = s.rxbuf := rfl
@[simp] theorem writeRbit_rbit (b : Level) (s : State) : (writeRbit b s).rbit = some b := rfl
@[simp] theorem writeRbit_written (b : Level) (s : State) : (writeRbit b s).written = { s.written with rbit := true } := rfl
@[simp] theorem writeRbit_operands (b : Level) (s : State) : (writeRbit b s).operands = s.operands := rfl
@[simp] theorem writeRbit_params (b : Level) (s : State) : (writeRbit b s).params = s.params := rfl
@[simp] theorem writeRbit_program (b : Level) (s : State) : (writeRbit b s).program = s.program := rfl
@[simp] theorem writeRbit_target (b : Level) (s : State) : (writeRbit b s).target = s.target := rfl
@[simp] theorem writeRbit_samples (b : Level) (s : State) : (writeRbit b s).samples = s.samples := rfl
@[simp] theorem writeRbit_engineReady (b : Level) (s : State) : (writeRbit b s).engineReady = s.engineReady := rfl
@[simp] theorem writeRbit_trace (b : Level) (s : State) : (writeRbit b s).trace = s.trace := rfl

@[simp] theorem takeCommand_mode (c : Command) (rest : List Command) (s : State) : (takeCommand c rest s).mode = s.mode := rfl
@[simp] theorem takeCommand_cont (c : Command) (rest : List Command) (s : State) : (takeCommand c rest s).cont = s.cont := rfl
@[simp] theorem takeCommand_out (c : Command) (rest : List Command) (s : State) : (takeCommand c rest s).out = s.out := rfl
@[simp] theorem takeCommand_oe (c : Command) (rest : List Command) (s : State) : (takeCommand c rest s).oe = s.oe := rfl
@[simp] theorem takeCommand_enabled (c : Command) (rest : List Command) (s : State) : (takeCommand c rest s).enabled = s.enabled := rfl
@[simp] theorem takeCommand_src (c : Command) (rest : List Command) (s : State) : (takeCommand c rest s).src = s.src := rfl
@[simp] theorem takeCommand_slew (c : Command) (rest : List Command) (s : State) : (takeCommand c rest s).slew = s.slew := rfl
@[simp] theorem takeCommand_shiftOwner (c : Command) (rest : List Command) (s : State) : (takeCommand c rest s).shiftOwner = s.shiftOwner := rfl
@[simp] theorem takeCommand_ack (c : Command) (rest : List Command) (s : State) : (takeCommand c rest s).ack = s.ack := rfl
@[simp] theorem takeCommand_perr (c : Command) (rest : List Command) (s : State) : (takeCommand c rest s).perr = s.perr := rfl
@[simp] theorem takeCommand_ok (c : Command) (rest : List Command) (s : State) : (takeCommand c rest s).ok = s.ok := rfl
@[simp] theorem takeCommand_rdata (c : Command) (rest : List Command) (s : State) : (takeCommand c rest s).rdata = s.rdata := rfl
@[simp] theorem takeCommand_rxbuf (c : Command) (rest : List Command) (s : State) : (takeCommand c rest s).rxbuf = s.rxbuf := rfl
@[simp] theorem takeCommand_rbit (c : Command) (rest : List Command) (s : State) : (takeCommand c rest s).rbit = s.rbit := rfl
@[simp] theorem takeCommand_written (c : Command) (rest : List Command) (s : State) : (takeCommand c rest s).written = Written.nothing := rfl
@[simp] theorem takeCommand_operands (c : Command) (rest : List Command) (s : State) : (takeCommand c rest s).operands = c.operands := rfl
@[simp] theorem takeCommand_params (c : Command) (rest : List Command) (s : State) : (takeCommand c rest s).params = s.params := rfl
@[simp] theorem takeCommand_program (c : Command) (rest : List Command) (s : State) : (takeCommand c rest s).program = rest := rfl
@[simp] theorem takeCommand_target (c : Command) (rest : List Command) (s : State) : (takeCommand c rest s).target = s.target := rfl
@[simp] theorem takeCommand_samples (c : Command) (rest : List Command) (s : State) : (takeCommand c rest s).samples = s.samples := rfl
@[simp] theorem takeCommand_engineReady (c : Command) (rest : List Command) (s : State) : (takeCommand c rest s).engineReady = c.engineReady := rfl
@[simp] theorem takeCommand_trace (c : Command) (rest : List Command) (s : State) : (takeCommand c rest s).trace = s.trace := rfl

/-- A latch reads what was last set on its own line, and keeps its level when another line is set. -/
theorem Lines.get_set (x : Lines) (l m : Line) (b : Bool) :
    (x.set l b).get m = if m = l then b else x.get m := by
  cases l <;> cases m <;> rfl

@[simp] theorem Lines.set_swclkTck_swclkTck (x : Lines) (b : Bool) : (x.set .swclkTck b).swclkTck = b := rfl
@[simp] theorem Lines.set_swclkTck_swdioTms (x : Lines) (b : Bool) : (x.set .swclkTck b).swdioTms = x.swdioTms := rfl
@[simp] theorem Lines.set_swclkTck_tdi (x : Lines) (b : Bool) : (x.set .swclkTck b).tdi = x.tdi := rfl
@[simp] theorem Lines.set_swclkTck_tdo (x : Lines) (b : Bool) : (x.set .swclkTck b).tdo = x.tdo := rfl
@[simp] theorem Lines.set_swclkTck_nReset (x : Lines) (b : Bool) : (x.set .swclkTck b).nReset = x.nReset := rfl
@[simp] theorem Lines.get_swclkTck (x : Lines) : x.get .swclkTck = x.swclkTck := rfl
@[simp] theorem Lines.set_swdioTms_swclkTck (x : Lines) (b : Bool) : (x.set .swdioTms b).swclkTck = x.swclkTck := rfl
@[simp] theorem Lines.set_swdioTms_swdioTms (x : Lines) (b : Bool) : (x.set .swdioTms b).swdioTms = b := rfl
@[simp] theorem Lines.set_swdioTms_tdi (x : Lines) (b : Bool) : (x.set .swdioTms b).tdi = x.tdi := rfl
@[simp] theorem Lines.set_swdioTms_tdo (x : Lines) (b : Bool) : (x.set .swdioTms b).tdo = x.tdo := rfl
@[simp] theorem Lines.set_swdioTms_nReset (x : Lines) (b : Bool) : (x.set .swdioTms b).nReset = x.nReset := rfl
@[simp] theorem Lines.get_swdioTms (x : Lines) : x.get .swdioTms = x.swdioTms := rfl
@[simp] theorem Lines.set_tdi_swclkTck (x : Lines) (b : Bool) : (x.set .tdi b).swclkTck = x.swclkTck := rfl
@[simp] theorem Lines.set_tdi_swdioTms (x : Lines) (b : Bool) : (x.set .tdi b).swdioTms = x.swdioTms := rfl
@[simp] theorem Lines.set_tdi_tdi (x : Lines) (b : Bool) : (x.set .tdi b).tdi = b := rfl
@[simp] theorem Lines.set_tdi_tdo (x : Lines) (b : Bool) : (x.set .tdi b).tdo = x.tdo := rfl
@[simp] theorem Lines.set_tdi_nReset (x : Lines) (b : Bool) : (x.set .tdi b).nReset = x.nReset := rfl
@[simp] theorem Lines.get_tdi (x : Lines) : x.get .tdi = x.tdi := rfl
@[simp] theorem Lines.set_tdo_swclkTck (x : Lines) (b : Bool) : (x.set .tdo b).swclkTck = x.swclkTck := rfl
@[simp] theorem Lines.set_tdo_swdioTms (x : Lines) (b : Bool) : (x.set .tdo b).swdioTms = x.swdioTms := rfl
@[simp] theorem Lines.set_tdo_tdi (x : Lines) (b : Bool) : (x.set .tdo b).tdi = x.tdi := rfl
@[simp] theorem Lines.set_tdo_tdo (x : Lines) (b : Bool) : (x.set .tdo b).tdo = b := rfl
@[simp] theorem Lines.set_tdo_nReset (x : Lines) (b : Bool) : (x.set .tdo b).nReset = x.nReset := rfl
@[simp] theorem Lines.get_tdo (x : Lines) : x.get .tdo = x.tdo := rfl
@[simp] theorem Lines.set_nReset_swclkTck (x : Lines) (b : Bool) : (x.set .nReset b).swclkTck = x.swclkTck := rfl
@[simp] theorem Lines.set_nReset_swdioTms (x : Lines) (b : Bool) : (x.set .nReset b).swdioTms = x.swdioTms := rfl
@[simp] theorem Lines.set_nReset_tdi (x : Lines) (b : Bool) : (x.set .nReset b).tdi = x.tdi := rfl
@[simp] theorem Lines.set_nReset_tdo (x : Lines) (b : Bool) : (x.set .nReset b).tdo = x.tdo := rfl
@[simp] theorem Lines.set_nReset_nReset (x : Lines) (b : Bool) : (x.set .nReset b).nReset = b := rfl
@[simp] theorem Lines.get_nReset (x : Lines) : x.get .nReset = x.nReset := rfl

@[simp] theorem contDrivenBit_some {s : State} {c : Continuation} (h : s.cont = some c) :
    contDrivenBit s = c.lastDrivenBit := by
  simp [contDrivenBit, h]

@[simp] theorem contModeSelect_some {s : State} {c : Continuation} (h : s.cont = some c) :
    contModeSelect s = c.lastModeSelectLevel := by
  simp [contModeSelect, h]

end Sys2Proof.Machine
end

