-- ==== Sys2Proof/Laws/Ops.lean ====
section
/-! SUPPORT. What each primitive of Machine/Ops.lean can do, said once: the Line Driver primitives and the cycles as
one record each, runs of actions by composition, and the fields no action touches. -/

namespace Sys2Proof.Machine

/-- Everything `LineSet` does (R112). -/
theorem lineSet_eq (l : Line) (b : Level) (s : State) :
    lineSet l b s =
      { s with out := s.out.set l b, cont := (contUpdateOnSet l b s).cont, trace := s.trace ++ [.lvl l b] } := by
  rcases hm : s.mode <;> cases l <;> simp [lineSet, contUpdateOnSet, emit, hm, setContDriven, setContModeSelect]
  · split <;> simp_all [Lines.set]

/-- Everything `LineDir` does (R114). -/
theorem lineDir_eq (l : Line) (d : Bool) (s : State) :
    lineDir l d s =
      { s with oe := s.oe.set l d, cont := (contUpdateOnDir l d s).cont, trace := s.trace ++ [.dir l d] } := by
  rcases hm : s.mode <;> cases l <;> cases d <;> simp [lineDir, contUpdateOnDir, emit, hm, setContDriven]

/-- Everything `LineGet` does (R113): nothing to the block. -/
theorem lineGet_eq (l : Line) (s : State) :
    lineGet l s =
      if s.enabled && s.oe.get l then (s.out.get l, s) else (oracleLevel s, consumeSample s) := by
  cases h : (s.enabled && s.oe.get l) <;> simp [lineGet, pinLevel, h]

/-- Everything one TCK pulse does (R141). -/
theorem jCycle_eq (tms : Level) (tdi : Option Level) (cap : Bool) (s : State) :
    jCycle tms tdi cap s =
      (oracleLevel s,
        { s with
          out := { s.out with swclkTck := true, swdioTms := tms, tdi := tdi.getD (contDrivenBit s) }
          cont := some { lastDrivenBit := tdi.getD (contDrivenBit s), lastModeSelectLevel := tms }
          target := s.target.tail
          samples := s.samples + 1
          trace := s.trace ++ [.clkJtag tms (tdi.getD (contDrivenBit s)) (oracleLevel s) cap] }) := rfl

/-- Everything one driven SWCLK pulse does (R142). -/
theorem sCycleOut_eq (b : Level) (s : State) :
    sCycleOut b s =
      { s with
        out := { s.out with swclkTck := true, swdioTms := b }
        cont := s.cont.map fun c => { c with lastDrivenBit := b }
        trace := s.trace ++ [.clkSwdOut b] } := rfl

/-- Everything one released SWCLK pulse does (R143). -/
theorem sCycleIn_eq (cap : Bool) (s : State) :
    sCycleIn cap s =
      (oracleLevel s,
        { s with
          out := { s.out with swclkTck := true }
          cont := if cap then s.cont.map fun c => { c with lastDrivenBit := oracleLevel s } else s.cont
          target := s.target.tail
          samples := s.samples + 1
          trace := s.trace ++ [.clkSwdIn (oracleLevel s) cap] }) := by
  cases cap <;> rfl

@[simp] theorem runActions_nil (s : State) : runActions [] s = (s, []) := rfl

theorem runActions_cons (a : Action) (as : List Action) (s : State) :
    runActions (a :: as) s =
      ((runActions as (runAction a s).1).1, (runAction a s).2 ++ (runActions as (runAction a s).1).2) := rfl

/-- Runs compose (R70): the second starts where the first ended, and the captures follow one another. -/
theorem runActions_append (as bs : List Action) (s : State) :
    runActions (as ++ bs) s =
      ((runActions bs (runActions as s).1).1, (runActions as s).2 ++ (runActions bs (runActions as s).1).2) := by
  induction as generalizing s with
  | nil => simp
  | cons a as ih => simp [runActions_cons, ih, List.append_assoc]

@[simp] theorem Phased.actions_nil : Phased.actions [] = [] := rfl

@[simp] theorem Phased.actions_cons (x : Phase × List Action) (p : Phased) :
    Phased.actions (x :: p) = x.2 ++ Phased.actions p := rfl

@[simp] theorem Phased.actions_append (p q : Phased) :
    Phased.actions (p ++ q) = Phased.actions p ++ Phased.actions q := by
  simp [Phased.actions]

/-- The one event an action emits in a state. -/
def actionEvent (a : Action) (s : State) : Event :=
  match a with
  | .set l b => .lvl l b
  | .dir l d => .dir l d
  | .enable e => .en e
  | .jtag tms tdi cap => .clkJtag tms (tdi.getD (contDrivenBit s)) (oracleLevel s) cap
  | .swdOut b => .clkSwdOut (b.getD (contDrivenBit s))
  | .swdIn cap => .clkSwdIn (oracleLevel s) cap

/-- Every action emits exactly one event (R70: none dropped, none merged). -/
theorem runAction_trace (a : Action) (s : State) : (runAction a s).1.trace = s.trace ++ [actionEvent a s] := by
  cases a <;> simp [runAction, actionEvent, lineSet_eq, lineDir_eq, jCycle_eq, sCycleOut_eq, sCycleIn_eq]

/-- The trace of a run only grows, by one event an action. -/
theorem runActions_trace (as : List Action) (s : State) :
    ∃ evs, (runActions as s).1.trace = s.trace ++ evs ∧ evs.length = as.length := by
  induction as generalizing s with
  | nil => exact ⟨[], by simp⟩
  | cons a as ih =>
    obtain ⟨evs, h, hl⟩ := ih (runAction a s).1
    exact ⟨actionEvent a s :: evs, by simp [runActions_cons, h, runAction_trace], by simp [hl]⟩

@[simp] theorem runAction_mode (a : Action) (s : State) : (runAction a s).1.mode = s.mode := by
  cases a <;> simp [runAction, lineSet_eq, lineDir_eq, jCycle_eq, sCycleOut_eq, sCycleIn_eq]

@[simp] theorem runActions_mode (as : List Action) (s : State) : (runActions as s).1.mode = s.mode := by
  induction as generalizing s with
  | nil => rfl
  | cons a as ih => simp [runActions_cons, ih]

@[simp] theorem runAction_src (a : Action) (s : State) : (runAction a s).1.src = s.src := by
  cases a <;> simp [runAction, lineSet_eq, lineDir_eq, jCycle_eq, sCycleOut_eq, sCycleIn_eq]

@[simp] theorem runActions_src (as : List Action) (s : State) : (runActions as s).1.src = s.src := by
  induction as generalizing s with
  | nil => rfl
  | cons a as ih => simp [runActions_cons, ih]

@[simp] theorem runAction_slew (a : Action) (s : State) : (runAction a s).1.slew = s.slew := by
  cases a <;> simp [runAction, lineSet_eq, lineDir_eq, jCycle_eq, sCycleOut_eq, sCycleIn_eq]

@[simp] theorem runActions_slew (as : List Action) (s : State) : (runActions as s).1.slew = s.slew := by
  induction as generalizing s with
  | nil => rfl
  | cons a as ih => simp [runActions_cons, ih]

@[simp] theorem runAction_shiftOwner (a : Action) (s : State) : (runAction a s).1.shiftOwner = s.shiftOwner := by
  cases a <;> simp [runAction, lineSet_eq, lineDir_eq, jCycle_eq, sCycleOut_eq, sCycleIn_eq]

@[simp] theorem runActions_shiftOwner (as : List Action) (s : State) : (runActions as s).1.shiftOwner = s.shiftOwner := by
  induction as generalizing s with
  | nil => rfl
  | cons a as ih => simp [runActions_cons, ih]

@[simp] theorem runAction_ack (a : Action) (s : State) : (runAction a s).1.ack = s.ack := by
  cases a <;> simp [runAction, lineSet_eq, lineDir_eq, jCycle_eq, sCycleOut_eq, sCycleIn_eq]

@[simp] theorem runActions_ack (as : List Action) (s : State) : (runActions as s).1.ack = s.ack := by
  induction as generalizing s with
  | nil => rfl
  | cons a as ih => simp [runActions_cons, ih]

@[simp] theorem runAction_perr (a : Action) (s : State) : (runAction a s).1.perr = s.perr := by
  cases a <;> simp [runAction, lineSet_eq, lineDir_eq, jCycle_eq, sCycleOut_eq, sCycleIn_eq]

@[simp] theorem runActions_perr (as : List Action) (s : State) : (runActions as s).1.perr = s.perr := by
  induction as generalizing s with
  | nil => rfl
  | cons a as ih => simp [runActions_cons, ih]

@[simp] theorem runAction_ok (a : Action) (s : State) : (runAction a s).1.ok = s.ok := by
  cases a <;> simp [runAction, lineSet_eq, lineDir_eq, jCycle_eq, sCycleOut_eq, sCycleIn_eq]

@[simp] theorem runActions_ok (as : List Action) (s : State) : (runActions as s).1.ok = s.ok := by
  induction as generalizing s with
  | nil => rfl
  | cons a as ih => simp [runActions_cons, ih]

@[simp] theorem runAction_rdata (a : Action) (s : State) : (runAction a s).1.rdata = s.rdata := by
  cases a <;> simp [runAction, lineSet_eq, lineDir_eq, jCycle_eq, sCycleOut_eq, sCycleIn_eq]

@[simp] theorem runActions_rdata (as : List Action) (s : State) : (runActions as s).1.rdata = s.rdata := by
  induction as generalizing s with
  | nil => rfl
  | cons a as ih => simp [runActions_cons, ih]

@[simp] theorem runAction_rxbuf (a : Action) (s : State) : (runAction a s).1.rxbuf = s.rxbuf := by
  cases a <;> simp [runAction, lineSet_eq, lineDir_eq, jCycle_eq, sCycleOut_eq, sCycleIn_eq]

@[simp] theorem runActions_rxbuf (as : List Action) (s : State) : (runActions as s).1.rxbuf = s.rxbuf := by
  induction as generalizing s with
  | nil => rfl
  | cons a as ih => simp [runActions_cons, ih]

@[simp] theorem runAction_rbit (a : Action) (s : State) : (runAction a s).1.rbit = s.rbit := by
  cases a <;> simp [runAction, lineSet_eq, lineDir_eq, jCycle_eq, sCycleOut_eq, sCycleIn_eq]

@[simp] theorem runActions_rbit (as : List Action) (s : State) : (runActions as s).1.rbit = s.rbit := by
  induction as generalizing s with
  | nil => rfl
  | cons a as ih => simp [runActions_cons, ih]

@[simp] theorem runAction_written (a : Action) (s : State) : (runAction a s).1.written = s.written := by
  cases a <;> simp [runAction, lineSet_eq, lineDir_eq, jCycle_eq, sCycleOut_eq, sCycleIn_eq]

@[simp] theorem runActions_written (as : List Action) (s : State) : (runActions as s).1.written = s.written := by
  induction as generalizing s with
  | nil => rfl
  | cons a as ih => simp [runActions_cons, ih]

@[simp] theorem runAction_operands (a : Action) (s : State) : (runAction a s).1.operands = s.operands := by
  cases a <;> simp [runAction, lineSet_eq, lineDir_eq, jCycle_eq, sCycleOut_eq, sCycleIn_eq]

@[simp] theorem runActions_operands (as : List Action) (s : State) : (runActions as s).1.operands = s.operands := by
  induction as generalizing s with
  | nil => rfl
  | cons a as ih => simp [runActions_cons, ih]

@[simp] theorem runAction_params (a : Action) (s : State) : (runAction a s).1.params = s.params := by
  cases a <;> simp [runAction, lineSet_eq, lineDir_eq, jCycle_eq, sCycleOut_eq, sCycleIn_eq]

@[simp] theorem runActions_params (as : List Action) (s : State) : (runActions as s).1.params = s.params := by
  induction as generalizing s with
  | nil => rfl
  | cons a as ih => simp [runActions_cons, ih]

@[simp] theorem runAction_program (a : Action) (s : State) : (runAction a s).1.program = s.program := by
  cases a <;> simp [runAction, lineSet_eq, lineDir_eq, jCycle_eq, sCycleOut_eq, sCycleIn_eq]

@[simp] theorem runActions_program (as : List Action) (s : State) : (runActions as s).1.program = s.program := by
  induction as generalizing s with
  | nil => rfl
  | cons a as ih => simp [runActions_cons, ih]

@[simp] theorem runAction_engineReady (a : Action) (s : State) : (runAction a s).1.engineReady = s.engineReady := by
  cases a <;> simp [runAction, lineSet_eq, lineDir_eq, jCycle_eq, sCycleOut_eq, sCycleIn_eq]

@[simp] theorem runActions_engineReady (as : List Action) (s : State) : (runActions as s).1.engineReady = s.engineReady := by
  induction as generalizing s with
  | nil => rfl
  | cons a as ih => simp [runActions_cons, ih]

end Sys2Proof.Machine
end

