-- ==== Sys2Proof/Laws/Cycles.lean ====
section
/-! SUPPORT. Runs of cycles in one go: a run of TCK pulses, of driven and of released SWCLK pulses, as one record,
with the TDI levels resolved against the continuation bit. -/

namespace Sys2Proof.Machine

/-- The TDI levels a run of cycles drives, from the continuation bit `d` on: `none` repeats the last level. -/
def resolve : Level → List (Option Level) → List Level
  | _, [] => []
  | d, none :: xs => d :: resolve d xs
  | _, some b :: xs => b :: resolve b xs

/-- The continuation bit after a run. -/
def resolveLast : Level → List (Option Level) → Level
  | d, [] => d
  | d, none :: xs => resolveLast d xs
  | _, some b :: xs => resolveLast b xs

@[simp] theorem resolve_nil (d : Level) : resolve d [] = [] := rfl
@[simp] theorem resolveLast_nil (d : Level) : resolveLast d [] = d := rfl

theorem resolve_cons (d : Level) (x : Option Level) (xs : List (Option Level)) :
    resolve d (x :: xs) = x.getD d :: resolve (x.getD d) xs := by
  cases x <;> rfl

theorem resolveLast_cons (d : Level) (x : Option Level) (xs : List (Option Level)) :
    resolveLast d (x :: xs) = resolveLast (x.getD d) xs := by
  cases x <;> rfl

theorem resolve_append (d : Level) (xs ys : List (Option Level)) :
    resolve d (xs ++ ys) = resolve d xs ++ resolve (resolveLast d xs) ys := by
  induction xs generalizing d with
  | nil => rfl
  | cons x xs ih => simp [resolve_cons, resolveLast_cons, ih]

theorem resolveLast_append (d : Level) (xs ys : List (Option Level)) :
    resolveLast d (xs ++ ys) = resolveLast (resolveLast d xs) ys := by
  induction xs generalizing d with
  | nil => rfl
  | cons x xs ih => simp [resolveLast_cons, ih]

@[simp] theorem resolve_length (d : Level) (xs : List (Option Level)) : (resolve d xs).length = xs.length := by
  induction xs generalizing d with
  | nil => rfl
  | cons x xs ih => simp [resolve_cons, ih]

@[simp] theorem resolve_replicate_none (d : Level) (n : Nat) :
    resolve d (List.replicate n none) = List.replicate n d := by
  induction n with
  | zero => rfl
  | succ n ih => simp [List.replicate_succ, resolve_cons, ih]

@[simp] theorem resolveLast_replicate_none (d : Level) (n : Nat) : resolveLast d (List.replicate n none) = d := by
  induction n with
  | zero => rfl
  | succ n ih => simp [List.replicate_succ, resolveLast_cons, ih]

@[simp] theorem resolve_map_some (d : Level) (bits : List Level) : resolve d (bits.map some) = bits := by
  induction bits generalizing d with
  | nil => rfl
  | cons b bits ih => simp [resolve_cons, ih]

/-- The last of some levels, `d` where there is none. -/
def lastLevel : Level → List Level → Level
  | d, [] => d
  | _, x :: xs => lastLevel x xs

@[simp] theorem lastLevel_nil (d : Level) : lastLevel d [] = d := rfl
@[simp] theorem lastLevel_cons (d x : Level) (xs : List Level) : lastLevel d (x :: xs) = lastLevel x xs := rfl

@[simp] theorem lastLevel_append (d : Level) (xs ys : List Level) :
    lastLevel d (xs ++ ys) = lastLevel (lastLevel d xs) ys := by
  induction xs generalizing d with
  | nil => rfl
  | cons x xs ih => simp [ih]

theorem lastLevel_replicate (d b : Level) (n : Nat) :
    lastLevel d (List.replicate n b) = if n = 0 then d else b := by
  induction n generalizing d with
  | zero => rfl
  | succ n ih => simp only [List.replicate_succ, lastLevel_cons, ih]; split <;> simp_all

/-- The continuation bit after a run is the last level it drives, and the bit before it if it drives none. -/
theorem resolveLast_eq (d : Level) (xs : List (Option Level)) : resolveLast d xs = lastLevel d (resolve d xs) := by
  induction xs generalizing d with
  | nil => rfl
  | cons x xs ih => simp [resolveLast_cons, resolve_cons, ih]

@[simp] theorem resolveLast_map_some (d : Level) (bits : List Level) :
    resolveLast d (bits.map some) = lastLevel d bits := by
  simp [resolveLast_eq]

/-- The captured levels of a run: those of the marked cycles, first first. -/
def captured : List Level → List Bool → List Level
  | t :: ts, c :: cs => kept c t ++ captured ts cs
  | _, _ => []

theorem captured_append {ts us : List Level} {cs ds : List Bool} (h : ts.length = cs.length) :
    captured (ts ++ us) (cs ++ ds) = captured ts cs ++ captured us ds := by
  induction ts generalizing cs with
  | nil => cases cs with
    | nil => rfl
    | cons c cs => simp at h
  | cons t ts ih => cases cs with
    | nil => simp at h
    | cons c cs =>
      simp only [List.length_cons, Nat.add_right_cancel_iff] at h
      simp [captured, ih h]

theorem captured_all (ts : List Level) (n : Nat) (h : ts.length = n) :
    captured ts (List.replicate n true) = ts := by
  induction ts generalizing n with
  | nil => cases n <;> rfl
  | cons t ts ih =>
    cases n with
    | zero => simp at h
    | succ n => simp [List.replicate_succ, captured, kept, ih n (by simpa using h)]

theorem captured_none (ts : List Level) (n : Nat) : captured ts (List.replicate n false) = [] := by
  induction ts generalizing n with
  | nil => cases n <;> rfl
  | cons t ts ih => cases n <;> simp [List.replicate_succ, captured, kept, ih]

@[simp] theorem oracleAnswers_length (n : Nat) (ts : List Level) (k : Nat) : (oracleAnswers n ts k).length = n := by
  induction n generalizing ts k with
  | zero => rfl
  | succ n ih => simp [oracleAnswers, ih]

@[simp] theorem answers_length (n : Nat) (s : State) : (answers n s).length = n := by simp [answers]

theorem oracleAnswers_add (m n : Nat) (ts : List Level) (k : Nat) :
    oracleAnswers (m + n) ts k = oracleAnswers m ts k ++ oracleAnswers n (ts.drop m) (k + m) := by
  induction m generalizing ts k with
  | zero => simp [oracleAnswers]
  | succ m ih =>
    have h : m + 1 + n = (m + n) + 1 := by omega
    rw [h, oracleAnswers, oracleAnswers, ih]
    simp [Nat.add_assoc, Nat.add_comm 1 m]

/-- The oracle's answers to a longer run begin with those to a shorter one. -/
theorem oracleAnswers_take (m n : Nat) (ts : List Level) (k : Nat) (h : m ≤ n) :
    (oracleAnswers n ts k).take m = oracleAnswers m ts k := by
  obtain ⟨d, rfl⟩ := Nat.exists_eq_add_of_le h
  simp [oracleAnswers_add]

/-- The answers after the first `m`. -/
theorem oracleAnswers_drop (m n : Nat) (ts : List Level) (k : Nat) :
    (oracleAnswers (m + n) ts k).drop m = oracleAnswers n (ts.drop m) (k + m) := by
  simp [oracleAnswers_add]

/-- One TCK pulse as data: TMS, what TDI is given, whether the sample is recorded. -/
structure TckPulse where
  tms : Level
  tdi : Option Level
  cap : Bool

/-- The action of a pulse. -/
def TckPulse.action (p : TckPulse) : Action := .jtag p.tms p.tdi p.cap

/-- The state after a run of at least one TCK pulse with the levels given. -/
def afterTck (tms tdi : List Level) (cap : List Bool) (s : State) : State :=
  { s with
    out := { s.out with
      swclkTck := true, swdioTms := lastLevel s.out.swdioTms tms, tdi := lastLevel s.out.tdi tdi }
    cont := some
      { lastDrivenBit := lastLevel (contDrivenBit s) tdi, lastModeSelectLevel := lastLevel (contModeSelect s) tms }
    target := s.target.drop tms.length
    samples := s.samples + tms.length
    trace := s.trace ++ jtagRun tms tdi (answers tms.length s) cap }

/-- Everything a run of TCK pulses does: the levels on the wires, the answers taken, the samples captured. -/
theorem runActions_tck (ps : List TckPulse) (s : State) (h : ps ≠ []) :
    runActions (ps.map TckPulse.action) s =
      (afterTck (ps.map (·.tms)) (resolve (contDrivenBit s) (ps.map (·.tdi))) (ps.map (·.cap)) s,
        captured (answers ps.length s) (ps.map (·.cap))) := by
  induction ps generalizing s with
  | nil => exact absurd rfl h
  | cons p ps ih =>
    by_cases hp : ps = []
    · subst hp
      simp [runActions_cons, TckPulse.action, runAction, jCycle_eq, afterTck, resolve_cons, answers, oracleAnswers,
        jtagRun, captured, oracleLevel]
    · simp only [List.map_cons, runActions_cons]
      rw [ih _ hp]
      simp [TckPulse.action, runAction, jCycle_eq, afterTck, resolve_cons, answers, oracleAnswers, jtagRun, captured,
        oracleLevel, contDrivenBit, contModeSelect, Nat.add_assoc, Nat.add_comm 1]

/-- The state after driven SWCLK pulses with the levels given. -/
def afterDriven (bits : List Level) (s : State) : State :=
  { s with
    out := { s.out with
      swclkTck := s.out.swclkTck || !bits.isEmpty, swdioTms := lastLevel s.out.swdioTms bits }
    cont := s.cont.map fun c => { c with lastDrivenBit := lastLevel c.lastDrivenBit bits }
    trace := s.trace ++ swdDriven bits }

/-- Everything a run of driven SWCLK pulses does. -/
theorem runActions_driven (bits : List Level) (s : State) :
    runActions (bits.map fun b => .swdOut (some b)) s = (afterDriven bits s, []) := by
  induction bits generalizing s with
  | nil => cases h : s.cont <;> simp [afterDriven, swdDriven, h] <;> cases s <;> simp_all
  | cons b bits ih =>
    cases h : s.cont <;>
      simp [runActions_cons, runAction, sCycleOut_eq, ih, afterDriven, swdDriven, h]

/-- Driven pulses that repeat the continuation bit drive the level it had at the start (R147). -/
theorem runActions_driven_none (n : Nat) (s : State) :
    runActions (List.replicate n (.swdOut none)) s = (afterDriven (List.replicate n (contDrivenBit s)) s, []) := by
  induction n generalizing s with
  | zero => exact runActions_driven [] s
  | succ n ih =>
    cases h : s.cont <;>
      simp [List.replicate_succ, runActions_cons, runAction, sCycleOut_eq, ih, afterDriven, swdDriven, h,
        contDrivenBit]

/-- The state after `n` released SWCLK pulses. -/
def afterReleased (n : Nat) (cap : Bool) (s : State) : State :=
  { s with
    out := { s.out with swclkTck := s.out.swclkTck || decide (n ≠ 0) }
    cont :=
      if cap then s.cont.map fun c => { c with lastDrivenBit := lastLevel c.lastDrivenBit (answers n s) } else s.cont
    target := s.target.drop n
    samples := s.samples + n
    trace := s.trace ++ swdReleased (answers n s) cap }

/-- Everything a run of released SWCLK pulses does. -/
theorem runActions_released (n : Nat) (cap : Bool) (s : State) :
    runActions (List.replicate n (.swdIn cap)) s = (afterReleased n cap s, if cap then answers n s else []) := by
  induction n generalizing s with
  | zero =>
    cases h : s.cont <;> cases cap <;>
      simp [afterReleased, swdReleased, answers, oracleAnswers, h] <;> cases s <;> simp_all
  | succ n ih =>
    cases h : s.cont <;> cases cap <;>
      simp [List.replicate_succ, runActions_cons, runAction, sCycleIn_eq, ih, afterReleased, swdReleased, answers,
        oracleAnswers, oracleLevel, kept, h, Nat.add_assoc, Nat.add_comm 1]

end Sys2Proof.Machine
end

