-- ==== Sys2Proof/Laws/Guards.lean ====
section
/-! SUPPORT. The refusal conditions (30_encoding.md R98, 42_jtag_tap.md R172): each check, said as a condition on the
state; when a guarded operation answers a next state; and the checks held against `Instr.operandsLegal`. -/

namespace Sys2Proof.Machine

/-- A guarded operation answers what its run answers when no check refuses. -/
theorem unlessRefused_of_none (checks : List (Option Refusal)) (run : Host.Outcome State Fault Refusal)
    (h : ∀ c ∈ checks, c = none) : unlessRefused checks run = run := by
  have : checks.findSome? id = none := by
    rw [List.findSome?_eq_none_iff]
    simpa using h
  simp [unlessRefused, this]

/-- A guarded operation that answers a next state passed every check. -/
theorem unlessRefused_next {checks : List (Option Refusal)} {run : Host.Outcome State Fault Refusal} {t : State} :
    unlessRefused checks run = .next t ↔ (∀ c ∈ checks, c = none) ∧ run = .next t := by
  constructor
  · intro h
    unfold unlessRefused at h
    split at h
    · cases h
    · rename_i hn
      rw [List.findSome?_eq_none_iff] at hn
      exact ⟨by simpa using hn, h⟩
  · rintro ⟨h, rfl⟩
    exact unlessRefused_of_none checks _ h

/-- A wait that the engine answers changes nothing. -/
theorem unlessStuck_next {s : State} {run : Host.Outcome State Fault Refusal} {t : State} :
    unlessStuck s run = .next t ↔ engineStuck s = false ∧ run = .next t := by
  unfold unlessStuck
  cases engineStuck s <;> simp

theorem unlessStuck_of_ready {s : State} (h : engineStuck s = false) (run : Host.Outcome State Fault Refusal) :
    unlessStuck s run = run := by
  simp [unlessStuck, h]

@[simp] theorem needsJtag_none (s : State) : needsJtag s = none ↔ s.mode = .jtag := by
  simp [needsJtag]

@[simp] theorem needsSwd_none (s : State) : needsSwd s = none ↔ s.mode = .swd := by
  simp [needsSwd]

@[simp] theorem needsActiveMode_none (s : State) : needsActiveMode s = none ↔ s.mode ≠ .disabled := by
  simp [needsActiveMode]

@[simp] theorem countCheck_none (s : State) : countCheck s = none ↔ s.operands.countLegal s.params = true := by
  unfold countCheck Operands.countLegal countOperand; split <;> simp_all

@[simp] theorem bitCountCheck_none (s : State) :
    bitCountCheck s = none ↔ s.operands.bitCountLegal s.params = true := by
  unfold bitCountCheck Operands.bitCountLegal countOperand; split <;> simp_all

@[simp] theorem bufferCheck_none (n : Nat) (s : State) :
    bufferCheck n s = none ↔ s.operands.txbufHolds n = true := by
  unfold bufferCheck Operands.txbufHolds byteCount; split <;> simp_all

@[simp] theorem chainCheck_none (s : State) : chainCheck s = none ↔ s.operands.cfg.chain.placed s.params = true := by
  unfold chainCheck ChainPosition.placed; simp only []; split <;> simp_all [and_assoc]

@[simp] theorem irLengthCheck_none (s : State) :
    irLengthCheck s = none ↔ s.operands.cfg.chain.irLengthLegal = true := by
  unfold irLengthCheck ChainPosition.irLengthLegal targetIrLength
  cases h : s.operands.cfg.chain.irLengthPerDevice[s.operands.cfg.chain.deviceIndex.toNat]? <;> simp

@[simp] theorem timestampCheck_none (s : State) : timestampCheck s = none ↔ s.operands.noTimestamp = true := by
  simp [timestampCheck, Operands.noTimestamp]

/-- The two readings of R83 agree. -/
theorem seqCount_eq_infoCycles (info : Byte) : seqCount info = infoCycles info := by
  revert info; decide

/-- `info[7]` is set exactly when the byte is at least 128. -/
theorem infoCapture_eq (info : Byte) : infoCapture info = decide (128 ≤ info.toNat) := by
  revert info; decide

/-- An `info` byte names 1 to 64 cycles (R83). -/
theorem seqCount_bounds (info : Byte) : 1 ≤ seqCount info ∧ seqCount info ≤ 64 := by
  revert info; decide

end Sys2Proof.Machine
end

