-- ==== Sys2Proof/Laws/Memory.lean ====
section
/-! SUPPORT. The capture buffer keeps its canonical form and reads back what was written; bits of packed bytes and
of assembled words; the reversal. -/

namespace Sys2Proof.Machine

/-- `Mem.risesFrom` with a bound says the same as without one, and that the first byte number is above it. -/
theorem Mem.risesFrom_some (lo : Nat) (m : Mem) :
    Mem.risesFrom (some lo) m = true ↔ (∀ k v, (k, v) ∈ m.head? → lo < k) ∧ Mem.risesFrom none m = true := by
  cases m with
  | nil => simp [Mem.risesFrom]
  | cons c m =>
    obtain ⟨k, v⟩ := c
    simp [Mem.risesFrom]

/-- A write keeps every byte number above a bound that the written one is above. -/
theorem Mem.risesFrom_write (lo : Option Nat) (m : Mem) (a : Nat) (b : Byte)
    (hlo : ∀ l, lo = some l → l < a) (h : Mem.risesFrom lo m = true) :
    Mem.risesFrom lo (Mem.write m a b) = true := by
  induction m generalizing lo with
  | nil => cases lo <;> simp_all [Mem.write, Mem.risesFrom]
  | cons c m ih =>
    obtain ⟨k, v⟩ := c
    simp only [Mem.write]
    split
    · cases lo <;> simp_all [Mem.risesFrom]
    · split
      · subst_vars
        cases lo <;> simp_all [Mem.risesFrom]
      · have hk : k < a := by omega
        cases lo with
        | none => exact ih (some k) (by simpa using hk) h
        | some l =>
          simp only [Mem.risesFrom, Bool.and_eq_true, decide_eq_true_eq] at h ⊢
          exact ⟨h.1, ih (some k) (by simpa using hk) h.2⟩

/-- A write keeps the canonical form. -/
theorem Mem.wf_write (m : Mem) (a : Nat) (b : Byte) (h : Mem.wf m = true) : Mem.wf (Mem.write m a b) = true :=
  Mem.risesFrom_write none m a b (by simp) h

/-- A run of writes keeps the canonical form. -/
theorem Mem.wf_writeBytes (m : Mem) (a : Nat) (bs : List Byte) (h : Mem.wf m = true) :
    Mem.wf (Mem.writeBytes m a bs) = true := by
  induction bs generalizing m a with
  | nil => exact h
  | cons b bs ih => exact ih _ _ (Mem.wf_write m a b h)

/-- Storing a capture keeps the canonical form of `RXBUF`. -/
theorem storeCapture_wf (bits : List Level) (s : State) (h : Mem.wf s.rxbuf = true) :
    Mem.wf (storeCapture bits s).rxbuf = true :=
  Mem.wf_writeBytes _ _ _ h

/-- A read after a write of the same byte gives the value written. -/
theorem Mem.read_write_same (m : Mem) (a : Nat) (b : Byte) : Mem.read (Mem.write m a b) a = some b := by
  induction m with
  | nil => simp [Mem.write, Mem.read]
  | cons c m ih =>
    obtain ⟨k, v⟩ := c
    simp only [Mem.write]
    split
    · simp [Mem.read]
    · split
      · simp [Mem.read]
      · rename_i h1 h2
        simp [Mem.read, h2, ih]

/-- A write leaves every other byte alone. -/
theorem Mem.read_write_other (m : Mem) (a a' : Nat) (b : Byte) (h : a' ≠ a) :
    Mem.read (Mem.write m a b) a' = Mem.read m a' := by
  induction m with
  | nil => simp [Mem.write, Mem.read, h]
  | cons c m ih =>
    obtain ⟨k, v⟩ := c
    simp only [Mem.write]
    split
    · simp [Mem.read, h]
    · split
      · subst_vars
        simp [Mem.read, h]
      · simp [Mem.read, ih]

/-- Reading a byte after a run of writes: the byte written there, or what stood there before. -/
theorem Mem.read_writeBytes (m : Mem) (a : Nat) (bs : List Byte) (k : Nat) :
    Mem.read (Mem.writeBytes m a bs) k = if a ≤ k ∧ k < a + bs.length then bs[k - a]? else Mem.read m k := by
  induction bs generalizing m a with
  | nil => simp [Mem.writeBytes]
  | cons b bs ih =>
    rw [Mem.writeBytes, ih]
    simp only [List.length_cons]
    by_cases hk : k = a
    · subst hk
      simp [Mem.read_write_same]
    · rw [Mem.read_write_other _ _ _ _ hk]
      by_cases h1 : a + 1 ≤ k ∧ k < a + 1 + bs.length
      · have h2 : a ≤ k ∧ k < a + (bs.length + 1) := by omega
        rw [if_pos h1, if_pos h2]
        obtain ⟨d, hd⟩ : ∃ d, k - a = d + 1 := ⟨k - a - 1, by omega⟩
        have : k - (a + 1) = d := by omega
        simp [hd, this]
      · have h2 : ¬(a ≤ k ∧ k < a + (bs.length + 1)) := by omega
        rw [if_neg h1, if_neg h2]

/-- Bit `i` of an assembled word is sample `i` (R61, R63); bits without a sample are 0. -/
theorem wordOfBits_getLsbD (w : Nat) (bits : List Level) (i : Nat) :
    (wordOfBits w bits).getLsbD i = (decide (i < w) && bits.getD i false) := by
  simp [wordOfBits, BitVec.getLsbD_setWidth, BitVec.getLsbD_ofBoolListLE]

@[simp] theorem wordBits_length {w : Nat} (v : BitVec w) (n : Nat) : (wordBits v n).length = n := by
  simp [wordBits]

@[simp] theorem bufferBits_length (buf : List Byte) (n : Nat) : (bufferBits buf n).length = n := by
  simp [bufferBits]

@[simp] theorem packBytes_length (bits : List Level) : (packBytes bits).length = byteCount bits.length := by
  simp [packBytes]

/-- A word assembled from all its bits is the word. -/
theorem wordOfBits_wordBits {w : Nat} (v : BitVec w) : wordOfBits w (wordBits v w) = v := by
  apply BitVec.eq_of_getLsbD_eq
  intro i hi
  rw [wordOfBits_getLsbD]
  simp [wordBits, hi]

/-- Reading a byte of `RXBUF` after a capture: the packed byte, or what stood there before (R62). -/
theorem storeCapture_read (bits : List Level) (s : State) (k : Nat) :
    Mem.read (storeCapture bits s).rxbuf k =
      if k < byteCount bits.length then (packBytes bits)[k]? else Mem.read s.rxbuf k := by
  rw [storeCapture_rxbuf, Mem.read_writeBytes]
  simp

/-- Byte `k` of a packed capture holds samples `8k` to `8k + 7`, 0 where there is none (R61, R62). -/
theorem packBytes_getElem? (bits : List Level) (k : Nat) (h : k < byteCount bits.length) :
    (packBytes bits)[k]? = some (wordOfBits 8 ((bits.drop (8 * k)).take 8)) := by
  simp [packBytes, h]

/-- Bit `i` of the reversed byte (R66). -/
theorem reverse8_getLsbD (b : Byte) (i : Nat) (h : i < 8) : (reverse8 b).getLsbD i = b.getLsbD (7 - i) := by
  rw [reverse8, wordOfBits_getLsbD]
  simp [h]

end Sys2Proof.Machine
end

