-- ==== Sys2Proof/Laws/PerInstr.lean ====
section
/-! SUPPORT. Family TableRow: the word the encoder writes for an operation lies in the operation's own row of
spec/opcode_table.json, and that row is one of the table's. One lemma per constructor. -/

namespace Sys2Proof.Laws.TableRow

/-- The encoded word has the fixed bits of the operation's row, and the row is in the table. -/
def Statement (i : Instr) : Prop := (rowOf i).covers (encode i) = true ∧ rowOf i ∈ opcodeRows

/-- Any operation whose row is in the table and covers its word. -/
theorem of_checks {i : Instr} (h : ((rowOf i).covers (encode i) && decide (rowOf i ∈ opcodeRows)) = true) :
    Statement i := by
  simpa [Statement] using h

theorem portOff : Statement .portOff := of_checks (by decide)
theorem portJtagSetup : Statement .portJtagSetup := of_checks (by decide)
theorem portSwdSetup : Statement .portSwdSetup := of_checks (by decide)
theorem clockSequence : ∀ cap held outPresent, Statement (.clockSequence cap held outPresent) := fun cap held outPresent =>
  of_checks (by revert cap held outPresent; decide)
theorem jtagSequence : ∀ info, Statement (.jtagSequence info) := fun info => of_checks (by revert info; decide)
theorem swdSequence : ∀ info, Statement (.swdSequence info) := fun info => of_checks (by revert info; decide)
theorem swjSequence : Statement .swjSequence := of_checks (by decide)
theorem jtagReadIdcode : Statement .jtagReadIdcode := of_checks (by decide)
theorem jtagIr : Statement .jtagIr := of_checks (by decide)
theorem jtagDr : Statement .jtagDr := of_checks (by decide)
theorem jtagTransfer : ∀ request checkAck, Statement (.jtagTransfer request checkAck) := fun request checkAck =>
  of_checks (by revert request checkAck; decide)
theorem jtagWriteAbort : Statement .jtagWriteAbort := of_checks (by decide)
theorem swdTransfer : ∀ request, Statement (.swdTransfer request) := fun request => of_checks (by revert request; decide)
theorem pinSwclkTckSet : Statement .pinSwclkTckSet := of_checks (by decide)
theorem pinSwclkTckClr : Statement .pinSwclkTckClr := of_checks (by decide)
theorem pinSwdioOut : ∀ level ignored, Statement (.pinSwdioOut level ignored) := fun level ignored =>
  of_checks (by revert level ignored; decide)
theorem pinSwdioOutEnable : Statement .pinSwdioOutEnable := of_checks (by decide)
theorem pinSwdioOutDisable : Statement .pinSwdioOutDisable := of_checks (by decide)
theorem pinTdiOut : ∀ level ignored, Statement (.pinTdiOut level ignored) := fun level ignored =>
  of_checks (by revert level ignored; decide)
theorem pinTdoIn : Statement .pinTdoIn := of_checks (by decide)
theorem pinNResetOut : ∀ level ignored, Statement (.pinNResetOut level ignored) := fun level ignored =>
  of_checks (by revert level ignored; decide)
theorem pinSwdioTmsSet : Statement .pinSwdioTmsSet := of_checks (by decide)
theorem pinSwdioTmsClr : Statement .pinSwdioTmsClr := of_checks (by decide)
theorem pinSwdioIn : Statement .pinSwdioIn := of_checks (by decide)
theorem pinSwclkTckIn : Statement .pinSwclkTckIn := of_checks (by decide)
theorem pinTdiIn : Statement .pinTdiIn := of_checks (by decide)
theorem pinNResetIn : Statement .pinNResetIn := of_checks (by decide)

end Sys2Proof.Laws.TableRow
end

