-- ==== Sys2Proof/Laws/Phases.lean ====
section
/-! SUPPORT. The sequencer phases of the composite JTAG operations, in the order of R203: no phase recurs. -/

namespace Sys2Proof.Machine

/-- The phases of an operation, in order. -/
def Phased.phases (p : Phased) : List Phase := p.map Prod.fst

theorem shiftPayload_phases (payload : List (Option Level)) (cap : Bool) (na : Nat) (fa : Option Level) :
    (shiftPayload payload cap na fa).phases = [.payload, .fillAfter, .exit] := by
  unfold shiftPayload
  split <;> rfl

theorem shiftBody_phases (payload : List (Option Level)) (cap : Bool) (nb : Nat) (fb : Option Level) (na : Nat)
    (fa : Option Level) :
    (shiftBody payload cap nb fb na fa).phases = [.fillBefore, .payload, .fillAfter, .exit] := by
  simpa [shiftBody, Phased.phases] using shiftPayload_phases payload cap na fa

theorem tail_phases (idle : Nat) (park : Bool) : (tail idle park).phases = [.update, .idle, .idleCycles, .park] := rfl

theorem phases_append (p q : Phased) : Phased.phases (p ++ q) = p.phases ++ q.phases := List.map_append

theorem idcodePhases_phases (fromReset : Bool) (c : ChainPosition) :
    (idcodePhases fromReset c).phases =
      [.preamble, .select, .fillBefore, .payload, .fillAfter, .exit, .update, .idle, .idleCycles, .park] := by
  simp only [idcodePhases, phases_append, shiftBody_phases, tail_phases]
  rfl

theorem irPhases_phases (ir : Word) (len : Nat) (c : ChainPosition) :
    (irPhases ir len c).phases =
      [.select, .fillBefore, .payload, .fillAfter, .exit, .update, .idle, .idleCycles, .park] := by
  simp only [irPhases, phases_append, shiftBody_phases, tail_phases]
  rfl

theorem drPhases_phases (bits : List Level) (c : ChainPosition) :
    (drPhases bits c).phases =
      [.select, .fillBefore, .payload, .fillAfter, .exit, .update, .idle, .idleCycles, .park] := by
  simp only [drPhases, phases_append, shiftBody_phases, tail_phases]
  rfl

/-- A transfer, with its data phase or aborted. -/
theorem transfer_phases (abort : Bool) (request : Byte) (data : Word) (idle : Nat) (c : ChainPosition) :
    Phased.phases (transferRequest request c ++ transferRest abort request data idle c) =
      [.select, .fillBefore, .request] ++ (if abort then [.exit] else [.payload, .fillAfter, .exit]) ++
        [.update, .idle, .idleCycles, .park] := by
  cases abort <;> cases h : reqRnW request <;>
    simp only [transferRest, transferRead, transferWrite, transferAbort, phases_append, shiftPayload_phases,
      tail_phases, h, if_true, Bool.false_eq_true, if_false] <;> rfl

theorem writeAbortPhases_phases (data : Word) (idle : Nat) (c : ChainPosition) :
    (writeAbortPhases data idle c).phases =
      [.select, .fillBefore, .request, .payload, .fillAfter, .exit, .update, .idle, .idleCycles, .park] := by
  simp only [writeAbortPhases, transferWrite, phases_append, shiftPayload_phases, tail_phases]
  rfl

end Sys2Proof.Machine
end

