-- ==== Sys2Proof/Laws/Results.lean ====
section
/-! SUPPORT. What an operation has returned (R41, U22): nothing when it starts, then what it writes. -/

namespace Sys2Proof.Machine

@[simp] theorem returnedAck_takeCommand (c : Command) (rest : List Command) (s : State) :
    returnedAck (takeCommand c rest s) = none := rfl

@[simp] theorem returnedPerr_takeCommand (c : Command) (rest : List Command) (s : State) :
    returnedPerr (takeCommand c rest s) = none := rfl

@[simp] theorem returnedOk_takeCommand (c : Command) (rest : List Command) (s : State) :
    returnedOk (takeCommand c rest s) = none := rfl

@[simp] theorem returnedRdata_takeCommand (c : Command) (rest : List Command) (s : State) :
    returnedRdata (takeCommand c rest s) = none := rfl

@[simp] theorem returnedRxByte_takeCommand (k : Nat) (c : Command) (rest : List Command) (s : State) :
    returnedRxByte k (takeCommand c rest s) = none := by
  simp [returnedRxByte, returned, Written.nothing]

@[simp] theorem returnedRbit_takeCommand (c : Command) (rest : List Command) (s : State) :
    returnedRbit (takeCommand c rest s) = none := rfl

@[simp] theorem returnedAck_writeAck (a : BitVec 3) (s : State) : returnedAck (writeAck a s) = some a := rfl

@[simp] theorem returnedPerr_writePerr (e : Bool) (s : State) : returnedPerr (writePerr e s) = some e := rfl

@[simp] theorem returnedOk_writeOk (k : Bool) (s : State) : returnedOk (writeOk k s) = some k := rfl

@[simp] theorem returnedRdata_writeRdata (v : Word) (s : State) : returnedRdata (writeRdata v s) = some v := rfl

@[simp] theorem returnedRbit_writeRbit (b : Level) (s : State) : returnedRbit (writeRbit b s) = some b := rfl

/-- A capture returns its packed bytes and no other, whatever the buffer held before (R41, R62, U22). -/
theorem returnedRxByte_storeCapture (k : Nat) (bits : List Level) (s : State) :
    returnedRxByte k (storeCapture bits s) =
      if k < byteCount bits.length then (packBytes bits)[k]? else none := by
  rw [returnedRxByte, storeCapture_read]
  by_cases h : k < byteCount bits.length <;> simp [returned, h]

/-- A result that is not written has no value to read (R45). -/
@[simp] theorem resultValue_none {α : Type} (r : ResultName) :
    resultValue r (none : Option α) = .error (.resultHasNoValue r) := rfl

end Sys2Proof.Machine
end

