-- ==== Sys2Proof/Laws/Wire.lean ====
section
/-! SUPPORT. What each event says of SWDIO (R23, R142, R143), one lemma an event, and how a trace is read in parts. -/

namespace Sys2Proof.Machine

@[simp] theorem SwdioWire.next_lvl_swdioTms (w : SwdioWire) (b : Level) :
    w.next (.lvl .swdioTms b) = { w with latch := b, bit := if w.output then b else w.bit } := rfl

@[simp] theorem SwdioWire.next_dir_swdioTms (w : SwdioWire) (d : Bool) :
    w.next (.dir .swdioTms d) = { w with output := d, bit := if d then w.latch else w.bit } := rfl

@[simp] theorem SwdioWire.next_clkSwdOut (w : SwdioWire) (b : Level) :
    w.next (.clkSwdOut b) = { w with latch := b, bit := b } := rfl

@[simp] theorem SwdioWire.next_clkSwdIn (w : SwdioWire) (t : Level) (cap : Bool) :
    w.next (.clkSwdIn t cap) = { w with bit := if cap then t else w.bit } := rfl

@[simp] theorem SwdioWire.next_en (w : SwdioWire) (e : Bool) : w.next (.en e) = w := rfl

/-- A write of another line says nothing of SWDIO. -/
theorem SwdioWire.next_lvl_other (w : SwdioWire) {l : Line} (b : Level) (h : l ≠ .swdioTms) : w.next (.lvl l b) = w := by
  cases l <;> first | rfl | exact absurd rfl h

/-- A switch of another line says nothing of SWDIO. -/
theorem SwdioWire.next_dir_other (w : SwdioWire) {l : Line} (d : Bool) (h : l ≠ .swdioTms) : w.next (.dir l d) = w := by
  cases l <;> first | rfl | exact absurd rfl h

@[simp] theorem swdioWire_output (s : State) : (swdioWire s).output = s.oe.swdioTms := rfl
@[simp] theorem swdioWire_latch (s : State) : (swdioWire s).latch = s.out.swdioTms := rfl
@[simp] theorem swdioWire_bit (s : State) : (swdioWire s).bit = contDrivenBit s := rfl

end Sys2Proof.Machine
end

