-- ==== Sys2Proof/Tests/Slice0.lean ====
section
/-! SUPPORT. Tests, with expected values from the spec: ill-formed operands that WellFormed refuses, the command word
of every operation written out from 30_encoding.md R94 to R96, single steps from 95_test_vectors.md, and for every
statement with hypotheses a state and operands that meet them. -/

namespace Sys2Proof.Tests

open Sys2Proof.Machine

/-! ### Helpers -/

/-- The levels of a string of `n` digits of the spec, first cycle on the left, written as a binary literal. -/
def str (n v : Nat) : List Level := ((List.range n).map v.testBit).reverse

/-- A block with the software backend. -/
def soft : Params := ⟨.software, 8, 1000, true, 0, 1⟩

/-- A block with the hardware backend. -/
def hard : Params := ⟨.hardware, 8, 1000, true, 0, 1⟩

/-- One device with a 4-bit instruction register. -/
def oneDevice : ChainPosition := ⟨0, 1, [4], 0, 0⟩

/-- The chain of vector E5 (a): the middle one of three. -/
def threeDevices : ChainPosition := ⟨1, 3, [4, 5, 4], 4, 4⟩

/-- Side operands with the defaults of the vectors. -/
def ops (chain : ChainPosition) (count : Nat) (data : Word) (txbuf : List Byte) (idle : Byte) : Operands :=
  { count := BitVec.ofNat 32 count
    data := data
    txbuf := txbuf
    trace := false
    cfg :=
      { chain := chain
        swd := ⟨.one, false⟩
        clock := ⟨0, 0⟩
        idleCycles := idle
        timestampRequest := false } }

/-- The operands of a vector that uses none but the chain of one device. -/
def plain : Operands := ops oneDevice 0 0 [] 0

/-- `COUNT` and `TXBUF` only. -/
def buffer (count : Nat) (txbuf : List Byte) : Operands := ops oneDevice count 0 txbuf 0

/-- The state after `PORT_JTAG_SETUP`, with operands and the target's answers, and an empty trace. -/
def jtag (o : Operands) (target : List Level) : State :=
  { State.resetWith soft with
    mode := .jtag, cont := some ⟨true, true⟩, oe := ⟨true, true, true, false, true⟩, enabled := true
    operands := o, target := target }

/-- The state after `PORT_SWD_SETUP`, likewise. -/
def swd (o : Operands) (target : List Level) : State :=
  { State.resetWith soft with
    mode := .swd, cont := some ⟨true, true⟩, oe := ⟨true, true, false, false, true⟩, enabled := true
    operands := o, target := target }

/-- The reset state with operands. -/
def off (o : Operands) : State := { State.resetWith soft with operands := o }

/-- A hardware block in JTAG mode whose engine never becomes ready. -/
def stuck : State :=
  { jtag plain [] with params := hard, src := .shifter, shiftOwner := .jtag, engineReady := false }

/-- The same block with an engine that answers. -/
def hardJtag : State := { stuck with engineReady := true }

/-- A hardware block whose engine the trace owner holds. -/
def traced : State :=
  { State.resetWith hard with shiftOwner := .trace, operands := { plain with trace := true } }

/-- SWD mode with SWDIO released, its continuation bit no longer the latch. -/
def swdReleasedPin : State :=
  { swd plain [] with oe := ⟨true, false, false, false, true⟩, cont := some ⟨false, true⟩ }

/-- SWD operands: data, turnaround, data phase on error, idle cycles. -/
def swdOps (data : Word) (turn : Turnaround) (onError : Bool) (idle : Byte) : Operands :=
  { plain with data := data, cfg := { plain.cfg with swd := ⟨turn, onError⟩, idleCycles := idle } }

/-- The next state of an outcome, if it is one. -/
def after (r : Host.Outcome State Fault Refusal) : Option State :=
  match r with
  | .next t => some t
  | .fault _ => none
  | .refused _ => none

/-- The events, `RDATA`, `ACK` and the continuation state of a next state. -/
def seen (r : Host.Outcome State Fault Refusal) :
    Option (List Event × Option Word × Option (BitVec 3) × Option Continuation) :=
  (after r).map fun t => (t.trace, t.rdata, t.ack, t.cont)

/-! ### WellFormed: one ill-formed term for each check -/

theorem test_params_refuse_small_max_count : Params.wellFormed { soft with maxCount := 999 } = false := by decide
theorem test_params_refuse_zero_fallback : Params.wellFormed { soft with delayFallback := 0 } = false := by decide
theorem test_params_accept : Params.wellFormed soft = true := by decide
theorem test_placed_refuses_no_device : ChainPosition.placed soft ⟨0, 0, [], 0, 0⟩ = false := by decide
theorem test_placed_refuses_too_many_devices : ChainPosition.placed soft ⟨0, 9, [], 0, 0⟩ = false := by decide
theorem test_placed_refuses_index_past_end : ChainPosition.placed soft ⟨3, 3, [], 0, 0⟩ = false := by decide
theorem test_ir_length_refuses_zero : ChainPosition.irLengthLegal ⟨0, 1, [0], 0, 0⟩ = false := by decide
theorem test_ir_length_refuses_33 : ChainPosition.irLengthLegal ⟨0, 1, [33], 0, 0⟩ = false := by decide
theorem test_ir_length_refuses_missing : ChainPosition.irLengthLegal ⟨1, 2, [4], 0, 0⟩ = false := by decide
theorem test_count_refuses_above_max : Operands.countLegal soft (buffer 1001 []) = false := by decide
theorem test_bit_count_refuses_zero : Operands.bitCountLegal soft (buffer 0 []) = false := by decide
theorem test_bit_count_refuses_above_max : Operands.bitCountLegal soft (buffer 1001 []) = false := by decide
theorem test_txbuf_refuses_one_byte_for_nine : Operands.txbufHolds (buffer 9 [0]) 9 = false := by decide
theorem test_timestamp_refused :
    Operands.noTimestamp { plain with cfg := { plain.cfg with timestampRequest := true } } = false := by decide
theorem test_operands_refuse_by_operation :
    Instr.operandsLegal soft (buffer 1001 []) (.clockSequence false false false) = false ∧
    Instr.operandsLegal soft (buffer 9 [0]) (.clockSequence false false true) = false ∧
    Instr.operandsLegal soft (buffer 0 []) (.jtagSequence 0x01) = false ∧
    Instr.operandsLegal soft (buffer 0 []) (.swdSequence 0x7F) = false ∧
    Instr.operandsLegal soft (buffer 0 []) (.swdSequence 0x80) = true ∧
    Instr.operandsLegal soft (buffer 1 []) .swjSequence = false ∧
    Instr.operandsLegal soft (buffer 0 []) .jtagDr = false := by decide

/-! ### Decoding: the word of every operation, written out from R94 to R96 -/

theorem test_decode_mode_operations :
    decode 0x00000000#32 = .ok .portOff ∧ decode 0x00000001#32 = .ok .portJtagSetup ∧
    decode 0x00000002#32 = .ok .portSwdSetup := by decide

theorem test_decode_sequences :
    decode 0x00010010#32 = .ok (.clockSequence true false false) ∧
    decode 0x00020010#32 = .ok (.clockSequence false true false) ∧
    decode 0x00040010#32 = .ok (.clockSequence false false true) ∧
    decode 0x0000C811#32 = .ok (.jtagSequence 0xC8) ∧ decode 0x00008312#32 = .ok (.swdSequence 0x83) ∧
    decode 0x00000013#32 = .ok .swjSequence := by decide

theorem test_decode_jtag :
    decode 0x00000020#32 = .ok .jtagReadIdcode ∧ decode 0x00000021#32 = .ok .jtagIr ∧
    decode 0x00000022#32 = .ok .jtagDr ∧ decode 0x00080423#32 = .ok (.jtagTransfer 0x04 true) ∧
    decode 0x00000F23#32 = .ok (.jtagTransfer 0x0F false) ∧ decode 0x00000024#32 = .ok .jtagWriteAbort := by decide

theorem test_decode_swd :
    decode 0x00000230#32 = .ok (.swdTransfer 0x02) ∧ decode 0x00000830#32 = .ok (.swdTransfer 0x08) := by decide

theorem test_decode_pins :
    decode 0x00000040#32 = .ok .pinSwclkTckSet ∧ decode 0x00000041#32 = .ok .pinSwclkTckClr ∧
    decode 0x00000142#32 = .ok (.pinSwdioOut true 0) ∧ decode 0x00000043#32 = .ok .pinSwdioOutEnable ∧
    decode 0x00000044#32 = .ok .pinSwdioOutDisable ∧ decode 0x00000145#32 = .ok (.pinTdiOut true 0) ∧
    decode 0x00000046#32 = .ok .pinTdoIn ∧ decode 0x00000247#32 = .ok (.pinNResetOut false 1) ∧
    decode 0x00000048#32 = .ok .pinSwdioTmsSet ∧ decode 0x00000049#32 = .ok .pinSwdioTmsClr ∧
    decode 0x0000004A#32 = .ok .pinSwdioIn ∧ decode 0x0000004B#32 = .ok .pinSwclkTckIn ∧
    decode 0x0000004C#32 = .ok .pinTdiIn ∧ decode 0x0000004D#32 = .ok .pinNResetIn := by decide

theorem test_decode_refuses_reserved :
    decode 0x00000003#32 = .error .reservedOpcode ∧ decode 0x000000FF#32 = .error .reservedOpcode ∧
    decode 0x00000100#32 = .error .argumentNotZero ∧ decode 0x00010230#32 = .error .flagNotZero ∧
    decode 0x00010023#32 = .error .flagNotZero ∧ decode 0x80000000#32 = .error .reservedBits := by decide

theorem test_table_word :
    decodeTableWord 32 0x00080423 = some (.jtagTransfer 0x04 true) ∧ decodeTableWord 8 0x20 = some .jtagReadIdcode ∧
    decodeTableWord 32 0x4E = none := by decide

/-! ### Single steps, with the values of 95_test_vectors.md -/

/-- Vector M1. -/
theorem test_port_jtag_setup :
    (after (exec .portJtagSetup (off plain))).map (fun t => (t.mode, t.cont, t.oe, t.ok, t.trace.length)) =
      some (.jtag, some ⟨true, true⟩, ⟨true, true, true, false, true⟩, some true, 16) := by decide

/-- Vector M5: the trace owner holds the hardware engine. -/
theorem test_port_swd_setup_taken :
    (after (exec .portSwdSetup
        { State.resetWith hard with operands := { plain with trace := true } })).map
      (fun t => (t.mode, t.ok, t.shiftOwner, t.trace.length)) = some (.disabled, some false, .trace, 6) := by decide

/-- Vector M2. -/
theorem test_port_swd_setup :
    (after (exec .portSwdSetup (jtag plain []))).map (fun t => (t.mode, t.cont, t.oe, t.ok, t.trace.length)) =
      some (.swd, some ⟨true, true⟩, ⟨true, true, false, false, true⟩, some true, 15) := by decide

/-- Vector M3. -/
theorem test_port_off :
    (after (exec .portOff (swd plain []))).map (fun t => (t.mode, t.cont, t.out, t.oe, t.trace)) =
      some (.disabled, none, Lines.all true, Lines.all false,
        [.dir .swclkTck false, .dir .swdioTms false, .dir .tdi false, .dir .tdo false, .dir .nReset false,
          .en false]) := by decide

/-- Vector Q1. -/
theorem test_clock_sequence_drives :
    seen (exec (.clockSequence false true true) (jtag (buffer 3 [0x05]) [false, false, false])) =
      some (jtagRun (str 3 0b111) (str 3 0b101) (str 3 0) (str 3 0), none, none, some ⟨true, true⟩) := by decide

/-- Vector Q15: with capture the line is released and the drive buffer ignored. -/
theorem test_clock_sequence_captures :
    (after (exec (.clockSequence true true true) (swd (buffer 5 [0xFF]) (str 5 0b11010)))).map
        (fun t => (t.trace, t.rxbuf, t.cont)) =
      some (.dir .swdioTms false :: swdReleased (str 5 0b11010) true, [(0, 0x0B#8)], some ⟨false, true⟩) := by decide

/-- Vector Q6: the unused bits of the captured byte are 0. -/
theorem test_jtag_sequence :
    (after (exec (.jtagSequence 0x83) (jtag (buffer 0 [0x06]) (str 3 0b110)))).map
        (fun t => (t.trace, t.rxbuf, t.cont)) =
      some (jtagRun (str 3 0) (str 3 0b011) (str 3 0b110) (str 3 0b111), [(0, 0x03#8)], some ⟨true, false⟩) := by decide

/-- Vector Q9. -/
theorem test_swd_sequence_out :
    (after (exec (.swdSequence 0x08) (swd (buffer 0 [0xA5]) []))).map (fun t => (t.trace, t.cont)) =
      some (.dir .swdioTms true :: swdDriven (str 8 0b10100101), some ⟨true, true⟩) := by decide

/-- Vector Q10. -/
theorem test_swd_sequence_in :
    (after (exec (.swdSequence 0x83) (swd plain (str 3 0b101)))).map
        (fun t => (t.trace, t.rxbuf, t.cont, t.oe.swdioTms)) =
      some (.dir .swdioTms false :: swdReleased (str 3 0b101) true, [(0, 0x05#8)], some ⟨true, true⟩, false) := by
  decide

/-- Vector W1. -/
theorem test_swj_sequence_jtag :
    seen (exec .swjSequence (jtag (buffer 6 [0x1F]) (str 6 0))) =
      some (jtagRun (str 6 0b111110) (str 6 0b111111) (str 6 0) (str 6 0), none, none, some ⟨true, false⟩) := by
  decide

/-- Vector W5, its first bit. -/
theorem test_swj_sequence_fallback :
    seen (exec .swjSequence (off (buffer 1 [0x01]))) =
      some ([.lvl .swdioTms true, .lvl .swclkTck false, .lvl .swclkTck true], none, none, none) := by decide

/-- Vector E8, with bit 31 from the exit cycle and TDI resting low. -/
theorem test_jtag_read_idcode :
    seen (exec .jtagReadIdcode
        { jtag plain (str 43 0b1111111111000000000000000000000000000000111) with cont := some ⟨false, true⟩ }) =
      some (jtagRun (str 43 0b1111101000000000000000000000000000000000110) (str 43 0)
        (str 43 0b1111111111000000000000000000000000000000111)
        (str 43 0b0000000001111111111111111111111111111111100), some 0x80000001#32, none, some ⟨false, false⟩) := by
  decide

/-- Vector E5 (a). -/
theorem test_jtag_ir :
    seen (exec .jtagIr (jtag (ops threeDevices 0 0x0A [] 0) (str 19 0b1111100010000100011))) =
      some (jtagRun (str 19 0b1100000000000000110) (str 19 0b1111111101010111111) (str 19 0b1111100010000100011)
        (str 19 0b0000000011111000000) ++ [.lvl .tdi true], some 1#32, none, some ⟨true, false⟩) := by decide

/-- Vector T8. -/
theorem test_jtag_dr :
    (after (exec .jtagDr (jtag (ops threeDevices 5 0 [0x13] 0) (str 12 0b111010110111)))).map
        (fun t => (t.trace, t.rxbuf)) =
      some (jtagRun (str 12 0b100000000110) (str 12 0b111111001111) (str 12 0b111010110111)
        (str 12 0b000011111000) ++ [.lvl .tdi true], [(0, 0x0D#8)]) := by decide

/-- Vector T13: early abort, with one idle cycle. -/
theorem test_jtag_transfer_abort :
    seen (exec (.jtagTransfer 0x06 true) (jtag (ops oneDevice 0 0 [] 1) (str 10 0b1111000000))) =
      some (jtagRun (str 10 0b1000001100) (str 10 0b1111100000) (str 10 0b1111000000) (str 10 0b0001110000) ++
        [.lvl .tdi true], none, some 0b010#3, some ⟨true, false⟩) := by decide

/-- Vector T15: a read with a filler on each side. -/
theorem test_jtag_transfer_read :
    seen (exec (.jtagTransfer 0x02 true)
        (jtag (ops threeDevices 0 0 [] 0) (str 42 0b111101010110000000011110111111101010011111))) =
      some (jtagRun (str 42 0b100000000000000000000000000000000000000110)
        (str 42 0b111110000000000000000000000000000000000000)
        (str 42 0b111101010110000000011110111111101010011111)
        (str 42 0b000011111111111111111111111111111111111000) ++ [.lvl .tdi true],
        some 0xCAFEF00D#32, some 0b001#3, some ⟨true, false⟩) := by decide

/-- Vector T17. -/
theorem test_jtag_write_abort :
    seen (exec .jtagWriteAbort
        (jtag (ops oneDevice 0 0x1E [] 0) (str 40 0b1110000000000000000000000000000000000011))) =
      some (jtagRun (str 40 0b1000000000000000000000000000000000000110)
        (str 40 0b1110000111100000000000000000000000000000)
        (str 40 0b1110000000000000000000000000000000000011)
        (str 40 0b0001110000000000000000000000000000000000) ++ [.lvl .tdi true],
        none, none, some ⟨true, false⟩) := by decide

set_option maxRecDepth 4000 in
/-- Vector X4: a read with a parity mismatch and two idle cycles; the recorded cycles after the packet. -/
theorem test_swd_transfer_parity_error :
    (after (exec (.swdTransfer 0x02)
        (swd (swdOps 0 .one false 2) (str 38 0b11001110111000101000000001011101010011)))).map
      (fun t => (t.trace, t.ack, t.perr, t.rdata)) =
    some ([.dir .swdioTms true] ++ swdDriven (str 8 0b10100101) ++ [.dir .swdioTms false] ++
      swdReleased [true] false ++ swdReleased (str 36 0b100111011100010100000000101110101001) true ++
      swdReleased [true] false ++ [.dir .swdioTms true] ++ swdDriven [false, false] ++ [.lvl .swdioTms true],
      some 0b100#3, some true, some 0x2BA01477#32) := by decide

/-- Program P1, steps 3 and 4: a Wait writes no `RDATA`. The register keeps the value of the read before (R41), and
the processor has nothing to read (U22). -/
theorem test_wait_returns_no_data :
    (after (step (placeCommand
        { swd plain (str 4 0b1010) with
          rdata := some 0x2BA01477#32, written := { Written.nothing with ack := true, perr := true, rdata := true } }
        32 0x00000830))).map
      (fun t => (readAck t, t.rdata, returnedRdata t)) =
    some (.ok 0b010#3, some 0x2BA01477#32, none) := by rfl

set_option maxRecDepth 4000 in
/-- Vector X5: a write; `parity32(1) = 1` is the 33rd driven bit. -/
theorem test_swd_transfer_write :
    seen (exec (.swdTransfer 0x05) (swd (swdOps 1 .one false 2) (str 5 0b11001))) =
    some ([.dir .swdioTms true] ++ swdDriven (str 8 0b11010001) ++ [.dir .swdioTms false] ++
      swdReleased [true] false ++ swdReleased (str 3 0b100) true ++ swdReleased [true] false ++
      [.dir .swdioTms true] ++ swdDriven (str 35 0b10000000000000000000000000000000100) ++ [.lvl .swdioTms true],
      none, some 0b001#3, some ⟨true, true⟩) := by decide

/-- The pseudocode of R146 on a released line whose latch is 0 and whose continuation bit is 1: `SwdOut()` makes the
latch the continuation bit (R118), which every cycle drives. R147's inference would have 1 (log 12). -/
theorem test_data_less_call_on_released_line :
    (after (exec (.clockSequence false true false)
        { swd (buffer 2 []) [] with
          oe := ⟨true, false, false, false, true⟩, out := ⟨true, false, true, true, true⟩ })).map
      (fun t => (t.trace, t.cont)) =
    some ([.dir .swdioTms true] ++ swdDriven [false, false], some ⟨false, true⟩) := by decide

/-- Section 2.3: a released SWDIO. The latch changes, the pin and the continuation bit do not; enabling the output
places the latch on the wire. -/
theorem test_pin_swdio_released :
    (after (exec (.pinSwdioOut false 0x7F)
        { swd plain [] with oe := ⟨true, false, false, false, true⟩ })).map
      (fun t => (t.out.swdioTms, t.cont, t.trace)) = some (false, some ⟨true, true⟩, [.lvl .swdioTms false]) ∧
    (after (exec .pinSwdioOutEnable
        { swd plain [] with oe := ⟨true, false, false, false, true⟩, out := ⟨true, false, true, true, true⟩ })).map
      (fun t => (t.oe.swdioTms, t.cont, t.trace)) = some (true, some ⟨false, true⟩, [.dir .swdioTms true]) ∧
    (after (exec .pinSwdioOutDisable (swd plain []))).map (fun t => (t.oe.swdioTms, t.cont)) =
      some (false, some ⟨true, true⟩) := by decide

/-- Section 2.3, JTAG mode: what each writing accessor does to the continuation state. -/
theorem test_pin_clock_and_reset_writes :
    seen (exec .pinSwclkTckClr (jtag plain [])) =
      some ([.lvl .swclkTck false], none, none, some ⟨true, true⟩) ∧
    seen (exec .pinSwclkTckSet (jtag plain [])) =
      some ([.lvl .swclkTck true], none, none, some ⟨true, true⟩) ∧
    seen (exec (.pinNResetOut false 0) (jtag plain [])) =
      some ([.lvl .nReset false], none, none, some ⟨true, true⟩) := by
  refine ⟨?_, ?_, ?_⟩ <;> decide

/-- Section 2.3, JTAG mode: the accessors that move the continuation state. -/
theorem test_pin_data_writes :
    seen (exec (.pinTdiOut false 0) (jtag plain [])) = some ([.lvl .tdi false], none, none, some ⟨false, true⟩) ∧
    seen (exec .pinSwdioTmsClr (jtag plain [])) =
      some ([.lvl .swdioTms false], none, none, some ⟨true, false⟩) ∧
    seen (exec .pinSwdioTmsSet { jtag plain [] with cont := some ⟨true, false⟩ }) =
      some ([.lvl .swdioTms true], none, none, some ⟨true, true⟩) := by
  refine ⟨?_, ?_, ?_⟩ <;> decide

/-- Section 2.3: a driven line reads its latch, any other reads the target. -/
theorem test_pin_reads :
    (after (exec .pinTdoIn (jtag plain [false]))).map (fun t => (t.rbit, t.target)) = some (some false, []) ∧
    (after (exec .pinTdiIn (jtag plain [false]))).map (fun t => (t.rbit, t.target)) = some (some true, [false]) ∧
    (after (exec .pinSwdioIn (swd plain [false]))).map (fun t => (t.rbit, t.target)) = some (some true, [false]) ∧
    (after (exec .pinSwclkTckIn { off plain with target := [false] })).map (fun t => (t.rbit, t.target)) =
      some (some false, []) ∧
    (after (exec .pinNResetIn { jtag plain [] with out := ⟨true, true, true, true, false⟩ })).map (fun t => t.rbit) =
      some (some false) := by decide

/-- A step takes the issued word; with the fixed interface the same word runs at once. -/
theorem test_step_runs_the_word :
    (after (step ((State.resetWith soft).withFetchWord 32 0x00000147))).map (fun t => (t.trace, t.program)) =
      some ([.lvl .nReset true], []) := by decide

/-! ### Witnesses: for each statement with hypotheses, a state and operands that meet them -/

/-- O2. -/
theorem witness_encode_of_decode : decode 0x0000FE42#32 = .ok (.pinSwdioOut false 0x7F) := by decide

/-- O3: both sides hold of a word, and neither of another. -/
theorem witness_decoder_rows :
    (∃ i, decode 0x00070010#32 = .ok i) ∧ (∃ r ∈ opcodeRows, r.covers 0x00070010#32 = true) ∧
    ¬ ∃ r ∈ opcodeRows, r.covers 0x00080010#32 = true := by
  refine ⟨⟨.clockSequence true true true, ?_⟩, ?_, ?_⟩ <;> decide

/-- O5. -/
theorem witness_step_performs :
    (placeCommand (jtag plain []) 32 0x00000046).program = [⟨0x00000046#32, plain, true⟩] ∧
    decode 0x00000046#32 = .ok .pinTdoIn := by decide

/-- O6. -/
theorem witness_step_refuses :
    (placeCommand (jtag plain []) 32 0x0000004E).program = [⟨0x0000004E#32, plain, true⟩] ∧
    decode 0x0000004E#32 = .error .reservedOpcode := by decide

/-- O7: an operation that completes, and three that do not: by mode, by operands, by the engine. -/
theorem witness_completes :
    CanRun (.jtagSequence 0x01) (jtag (buffer 0 [0]) []) ∧ ¬ CanRun (.jtagSequence 0x01) (swd (buffer 0 [0]) []) ∧
    ¬ CanRun (.jtagSequence 0x01) (jtag (buffer 0 []) []) ∧ ¬ CanRun .jtagWriteAbort stuck :=
  ⟨⟨by decide, by decide, by decide⟩, fun h => absurd h.mode (by decide), fun h => absurd h.operands (by decide),
    fun h => absurd (h.engine (by decide)) (by decide)⟩

/-- O8: refused for its mode, and refused for another reason. -/
theorem witness_wrong_mode :
    exec .jtagIr (swd plain []) = .refused .wrongMode ∧ performedIn .jtagIr .swd = false ∧
    exec .jtagDr (jtag plain []) = .refused .bitCountOutOfRange ∧ performedIn .jtagDr .jtag = true :=
  ⟨rfl, rfl, rfl, rfl⟩

/-- O9: the right side holds of the stuck engine; a pin accessor does not wait for it. -/
theorem witness_stuck_engine :
    exec .jtagReadIdcode stuck = .fault .engineNeverReady ∧ performedIn .jtagReadIdcode stuck.mode = true ∧
    Instr.operandsLegal stuck.params stuck.operands .jtagReadIdcode = true ∧
    clocksCycles .jtagReadIdcode stuck = true ∧ engineStuck stuck = true ∧ clocksCycles .pinTdoIn stuck = false :=
  ⟨rfl, rfl, rfl, rfl, rfl, rfl⟩

/-- O10. -/
theorem witness_software_step : (jtag plain []).params.backend = .software ∧ (jtag plain []).engineReady = true :=
  ⟨rfl, rfl⟩

/-- A consistent state in JTAG mode, with a hardware engine. -/
theorem witness_consistent_jtag : Consistent hardJtag := by constructor <;> decide

/-- A consistent state in SWD mode, SWDIO released and its continuation bit no longer the latch. -/
theorem witness_consistent_swd : Consistent swdReleasedPin := by constructor <;> decide

/-- O11: a step from a consistent state, a transfer that drives the released line again. -/
theorem witness_consistent_step :
    Consistent (placeCommand swdReleasedPin 32 0x00000230) ∧
    ∃ t, step (placeCommand swdReleasedPin 32 0x00000230) = .next t :=
  ⟨by constructor <;> decide, _, rfl⟩

/-- A block that the trace owner holds is consistent too. -/
theorem witness_consistent_trace : Consistent traced := by constructor <;> decide

/-- O14: steps after which results can and cannot be read: a set-up writes `OK` only, a transfer `ACK` and `PERR`, an
instruction load `RDATA`, a pin read `RBIT`, and `PIN_TDI_OUT` none. -/
theorem witness_result_reads :
    (decode 0x00000001#32 = .ok .portJtagSetup ∧ writesOk .portJtagSetup = true ∧ writesRbit .portJtagSetup = false ∧
      ∃ t, step (placeCommand (jtag plain []) 32 0x00000001) = .next t) ∧
    (decode 0x00000230#32 = .ok (.swdTransfer 0x02) ∧ writesAck (.swdTransfer 0x02) = true ∧
      writesPerr (.swdTransfer 0x02) = true ∧ writesOk (.swdTransfer 0x02) = false ∧
      ∃ t, step (placeCommand (swd plain (str 4 0b1010)) 32 0x00000230) = .next t) ∧
    (decode 0x00000021#32 = .ok .jtagIr ∧ ∃ t, step (placeCommand (jtag plain []) 32 0x00000021) = .next t) ∧
    (decode 0x00000046#32 = .ok .pinTdoIn ∧ writesRbit .pinTdoIn = true ∧
      ∃ t, step (placeCommand (jtag plain []) 32 0x00000046) = .next t) ∧
    (decode 0x00000145#32 = .ok (.pinTdiOut true 0) ∧ writesAck (.pinTdiOut true 0) = false ∧
      writesPerr (.pinTdiOut true 0) = false ∧ writesRdata (.pinTdiOut true 0) = false ∧
      writesRxbuf (.pinTdiOut true 0) = false ∧
      ∃ t, step (placeCommand (jtag plain []) 32 0x00000145) = .next t) :=
  ⟨⟨rfl, rfl, rfl, _, rfl⟩, ⟨rfl, rfl, rfl, rfl, _, rfl⟩, ⟨rfl, _, rfl⟩, ⟨rfl, rfl, _, rfl⟩,
    rfl, rfl, rfl, rfl, rfl, _, rfl⟩

set_option maxRecDepth 4000 in
/-- O14, `RDATA` and `RXBUF`: a completed read transfer; an early abort; a capture of nine samples, whose two bytes read
back and whose third does not, and one of count 0. -/
theorem witness_result_reads_data :
    (∃ t, step (placeCommand (jtag plain (str 6 0b111010)) 32 0x00080E23) = .next t ∧
      decode 0x00080E23#32 = .ok (.jtagTransfer 0x0E true) ∧ returnsRdata (.jtagTransfer 0x0E true) t = true) ∧
    (∃ t, step (placeCommand (jtag plain (str 6 0b111001)) 32 0x00080E23) = .next t ∧
      returnsRdata (.jtagTransfer 0x0E true) t = false) ∧
    (∃ t, step (placeCommand (jtag (buffer 9 []) []) 32 0x00010010) = .next t) ∧
    decode 0x00010010#32 = .ok (.clockSequence true false false) ∧
    1 < (capturedBits (.clockSequence true false false) (buffer 9 []) + 7) / 8 ∧
    (capturedBits (.clockSequence true false false) (buffer 9 []) + 7) / 8 ≤ 2 ∧
    (∃ t, step (placeCommand (jtag (buffer 0 []) []) 32 0x00010010) = .next t) ∧
    (capturedBits (.clockSequence true false false) (buffer 0 []) + 7) / 8 = 0 :=
  ⟨⟨_, rfl, rfl, rfl⟩, ⟨_, rfl, rfl⟩, ⟨_, rfl⟩, rfl, by decide, by decide, ⟨_, rfl⟩, rfl⟩

/-- O15, O16, O17: an operation that is not a mode operation and takes a next state; `PIN_TDI_OUT` writes no
result at all. -/
theorem witness_frame :
    isModeOperation (.pinTdiOut true 0) = false ∧ (∃ t, exec (.pinTdiOut true 0) (jtag plain []) = .next t) ∧
    writesAck (.pinTdiOut true 0) = false ∧ writesPerr (.pinTdiOut true 0) = false ∧
    writesOk (.pinTdiOut true 0) = false ∧ writesRdata (.pinTdiOut true 0) = false ∧
    writesRxbuf (.pinTdiOut true 0) = false ∧ writesRbit (.pinTdiOut true 0) = false :=
  ⟨rfl, ⟨_, rfl⟩, rfl, rfl, rfl, rfl, rfl, rfl⟩

/-- O18, O19. -/
theorem witness_invisible : isModeOperation (.swdTransfer 0x02) = false ∧ (swd plain []).engineReady = true ∧
    ∃ t, exec (.swdTransfer 0x02) (swd plain []) = .next t := ⟨rfl, rfl, _, rfl⟩

/-- O20. -/
theorem witness_continuation_invariant :
    [Action.jtag true (some false) true, .jtag false none false, .set .tdi true, .dir .swdioTms false].all
      notSwdCycle = true ∧ (jtag plain []).mode = .jtag ∧
    (jtag plain []).cont =
      some { lastDrivenBit := (jtag plain []).out.tdi, lastModeSelectLevel := (jtag plain []).out.swdioTms } := by
  decide

/-- O20, SWD mode: a run that drives, releases, samples and drives again. -/
theorem witness_continuation_wire :
    [Action.swdOut (some false), .dir .swdioTms false, .swdIn true, .set .swdioTms true, .dir .swdioTms true].all
      notTckCycle = true ∧ (swd plain [false]).mode = .swd ∧ (swd plain [false]).cont.isSome = true := by decide

/-- O22. -/
theorem witness_port_off : ∃ t, exec .portOff (swd plain []) = .next t := ⟨_, rfl⟩

/-- O23, O24: both arms of a set-up. -/
theorem witness_set_up_arms :
    (hard.backend = .hardware ∧ { plain with trace := true }.trace = true) ∧
    ¬ (soft.backend = .hardware ∧ { plain with trace := true }.trace = true) := by decide

/-- O25: every premise of the ownership table, from the consistent states above. -/
theorem witness_ownership :
    Consistent traced ∧ Consistent hardJtag ∧ Consistent swdReleasedPin ∧
    traced.params.backend = .hardware ∧ hardJtag.params.backend = .hardware ∧
    swdReleasedPin.params.backend = .software ∧
    (∃ t, exec .portOff traced = .next t) ∧ (∃ t, exec .portJtagSetup traced = .next t) ∧
    (∃ t, exec .portSwdSetup hardJtag = .next t) ∧ (∃ t, exec .pinTdoIn hardJtag = .next t) ∧
    isModeOperation .pinTdoIn = false ∧ ∃ t, exec .portOff swdReleasedPin = .next t :=
  ⟨witness_consistent_trace, witness_consistent_jtag, witness_consistent_swd, rfl, rfl, rfl, ⟨_, rfl⟩, ⟨_, rfl⟩,
    ⟨_, rfl⟩, ⟨_, rfl⟩, rfl, _, rfl⟩

/-- O26, in each of the three modes. -/
theorem witness_swj_sequence :
    CanRun .swjSequence (jtag (buffer 9 [0xFF, 0x01]) []) ∧ CanRun .swjSequence (swd (buffer 9 [0xFF, 0x01]) []) ∧
    CanRun .swjSequence (off (buffer 9 [0xFF, 0x01])) ∧ 0 < (buffer 9 [0xFF, 0x01]).count.toNat :=
  ⟨⟨by decide, by decide, by decide⟩, ⟨by decide, by decide, by decide⟩, ⟨by decide, by decide, by decide⟩, by decide⟩

/-- O27. -/
theorem witness_zero_count : (swd plain []).operands.count = 0 ∧ (swd plain []).mode ≠ .disabled := by decide

/-- O28, with and without `outData`, at the least and at the largest count of a block with `MAX_COUNT` 1000. -/
theorem witness_clock_sequence_jtag :
    CanRun (.clockSequence true true true) (jtag (buffer 1 [0x01]) []) ∧
    CanRun (.clockSequence true true false) (jtag (buffer 1000 []) []) ∧ 0 < (buffer 1 [0x01]).count.toNat ∧
    (jtag (buffer 1 [0x01]) []).mode = .jtag :=
  ⟨⟨by decide, by decide, by decide⟩, ⟨by decide, by decide, by decide⟩, by decide, rfl⟩

/-- O29 and O30. -/
theorem witness_clock_sequence_swd :
    CanRun (.clockSequence true false true) (swd (buffer 8 [0x5A]) []) ∧
    CanRun (.clockSequence false true true) (swd (buffer 8 [0x5A]) []) ∧
    CanRun (.clockSequence false true false) (swd (buffer 8 [0x5A]) []) ∧
    (swd (buffer 8 [0x5A]) []).mode = .swd ∧ (swd (buffer 8 [0x5A]) []).cont = some ⟨true, true⟩ ∧
    0 < (buffer 8 [0x5A]).count.toNat :=
  ⟨⟨by decide, by decide, by decide⟩, ⟨by decide, by decide, by decide⟩, ⟨by decide, by decide, by decide⟩, rfl, rfl,
    by decide⟩

/-- O31: a driving call and then a call without `outData`, in JTAG mode, with pin writes between. -/
theorem witness_continuation_repeats_jtag :
    ∃ t r, exec (.clockSequence true true true) (jtag (buffer 3 [0x03]) []) = .next t ∧
      runQuiet [(.pinNResetOut false 0, plain), (.pinSwdioOut false 0, plain)] t = some r ∧
      CanRun (.clockSequence true false false) { r with operands := buffer 5 [] } ∧
      0 < (buffer 5 []).count.toNat :=
  ⟨_, _, rfl, rfl, ⟨by decide, by decide, by decide⟩, by decide⟩

/-- O31 in SWD mode: at once, and with a capture of two ones, a release and a pin read between; the driven sequence ends
in 0. -/
theorem witness_continuation_repeats_swd :
    (∃ t, exec (.clockSequence false true true) (swd (buffer 4 [0x07]) []) = .next t ∧ runQuiet [] t = some t ∧
      CanRun (.clockSequence false true false) { t with operands := buffer 3 [] }) ∧
    ∃ t r, exec (.clockSequence false true true) (swd (buffer 4 [0x07]) [true, true]) = .next t ∧
      runQuiet [(.swdSequence 0x82, plain), (.pinSwdioOutDisable, plain), (.pinSwdioIn, plain)] t = some r ∧
      r.out.swdioTms = t.out.swdioTms ∧ contDrivenBit r = true ∧
      CanRun (.clockSequence false true false) { r with operands := buffer 3 [] } :=
  ⟨⟨_, rfl, rfl, by decide, by decide, by decide⟩, _, _, rfl, rfl, rfl, rfl, by decide, by decide, by decide⟩

/-- O32: a split into a full and a short burst. -/
theorem witness_burst_split :
    0 < 2 ∧ (jtag plain []).mode ≠ .disabled ∧ ∀ bits, some (str 3 5) = some bits → bits.length = 3 :=
  ⟨by decide, by decide, fun bits h => by cases h; decide⟩

/-- O33, at `info` counts 64 (written 0), 1 and 63. -/
theorem witness_jtag_sequence :
    CanRun (.jtagSequence 0x80) (jtag (buffer 0 [1, 2, 3, 4, 5, 6, 7, 8]) []) ∧
    CanRun (.jtagSequence 0x41) (jtag (buffer 0 [1]) []) ∧
    CanRun (.jtagSequence 0xFF) (jtag (buffer 0 [1, 2, 3, 4, 5, 6, 7, 8]) []) :=
  ⟨⟨by decide, by decide, by decide⟩, ⟨by decide, by decide, by decide⟩, ⟨by decide, by decide, by decide⟩⟩

/-- O34, both directions. -/
theorem witness_swd_sequence :
    CanRun (.swdSequence 0x80) (swd plain []) ∧ CanRun (.swdSequence 0x41) (swd (buffer 0 [1]) []) :=
  ⟨⟨by decide, by decide, by decide⟩, ⟨by decide, by decide, by decide⟩⟩

/-- O35: a sample, an unused bit of the last byte, and the first byte after it; the last two meet at bit 16 of a
capture of 13 samples. -/
theorem witness_capture :
    12 < (str 13 0x1F05).length ∧ ((str 13 0x1F05).length ≤ 15 ∧ 15 / 8 < ((str 13 0x1F05).length + 7) / 8) ∧
    ((str 13 0x1F05).length + 7) / 8 ≤ 16 := by decide

/-- O36. -/
theorem witness_reversal : (13 + 7) / 8 ≤ [0xEF#8, 0xBE#8].length := by decide

/-- O38. -/
theorem witness_software_cycle :
    (jtag plain []).mode = .jtag ∧ (jtag plain []).cont.isSome = true ∧ (jtag plain []).oe.tdo = false ∧
    (swd plain []).mode = .swd ∧ (swd plain []).oe.swdioTms = true ∧
    swdReleasedPin.mode = .swd ∧ swdReleasedPin.oe.swdioTms = false :=
  ⟨rfl, rfl, rfl, rfl, rfl, rfl, rfl⟩

/-- O39, at the last place of a longest chain. -/
theorem witness_jtag_read_idcode :
    CanRun .jtagReadIdcode (jtag plain []) ∧ CanRun .jtagReadIdcode (jtag (ops ⟨7, 8, [], 0, 0⟩ 0 0 [] 0) []) :=
  ⟨⟨by decide, by decide, by decide⟩, ⟨by decide, by decide, by decide⟩⟩

/-- O40, with and without trailing filler, at the shortest and the longest instruction register. -/
theorem witness_jtag_ir :
    CanRun .jtagIr (jtag (ops ⟨0, 1, [1], 0, 0⟩ 0 0 [] 0) []) ∧
    CanRun .jtagIr (jtag (ops ⟨0, 1, [32], 2, 3⟩ 0 0 [] 0) []) ∧ ([1] : List Word)[0]? = some 1 :=
  ⟨⟨by decide, by decide, by decide⟩, ⟨by decide, by decide, by decide⟩, rfl⟩

/-- O41, with and without trailing filler. -/
theorem witness_jtag_dr :
    CanRun .jtagDr (jtag (ops oneDevice 1 0 [0x01] 0) []) ∧ CanRun .jtagDr (jtag (ops threeDevices 9 0 [1, 1] 0) []) :=
  ⟨⟨by decide, by decide, by decide⟩, ⟨by decide, by decide, by decide⟩⟩

/-- O42: the wire acknowledge `0b001`. -/
theorem witness_jtag_abort :
    CanRun (.jtagTransfer 0x06 true) (jtag plain (str 10 0b1111000000)) ∧
    jtagAckRemap (wordOfBits 3 (((answers 9 (jtag plain (str 10 0b1111000000))).drop 3).take 3)) ≠ 0b001#3 :=
  ⟨⟨by decide, by decide, by decide⟩, by decide⟩

/-- O43 and O44: the wire acknowledge `0b010`, a read and a write. -/
theorem witness_jtag_transfer :
    CanRun (.jtagTransfer 0x0E true) (jtag plain (str 6 0b111010)) ∧ (0x0E#8).getLsbD 1 = true ∧
    CanRun (.jtagTransfer 0x04 true) (jtag plain (str 6 0b111010)) ∧ (0x04#8).getLsbD 1 = false ∧
    jtagAckRemap (wordOfBits 3 (((answers 6 (jtag plain (str 6 0b111010))).drop 3).take 3)) = 0b001#3 :=
  ⟨⟨by decide, by decide, by decide⟩, rfl, ⟨by decide, by decide, by decide⟩, rfl, by decide⟩

/-- O45. -/
theorem witness_jtag_write_abort : CanRun .jtagWriteAbort (jtag plain []) := ⟨by decide, by decide, by decide⟩

/-- O46, O47, O48: each composite operation takes a next state, whose trace extends the old one. -/
theorem witness_composite :
    (∃ t evs, exec .jtagReadIdcode (jtag plain []) = .next t ∧ t.trace = (jtag plain []).trace ++ evs) ∧
    (∃ t evs, exec .jtagIr (jtag plain []) = .next t ∧ t.trace = (jtag plain []).trace ++ evs) ∧
    (∃ t evs, exec .jtagDr (jtag (buffer 1 [1]) []) = .next t ∧
      t.trace = (jtag (buffer 1 [1]) []).trace ++ evs) ∧
    (∃ t evs, exec .jtagWriteAbort (jtag plain []) = .next t ∧ t.trace = (jtag plain []).trace ++ evs) ∧
    (∃ t evs, exec (.jtagTransfer 0x02 false) (jtag plain []) = .next t ∧
      t.trace = (jtag plain []).trace ++ evs) ∧
    (∃ t evs, exec (.jtagTransfer 0x02 true) (jtag plain (str 6 0b111010)) = .next t ∧
      t.trace = (jtag plain (str 6 0b111010)).trace ++ evs) ∧
    (jtag plain []).params.idcodeFromReset = true :=
  ⟨⟨_, _, rfl, rfl⟩, ⟨_, _, rfl, rfl⟩, ⟨_, _, rfl, rfl⟩, ⟨_, _, rfl, rfl⟩, ⟨_, _, rfl, rfl⟩, ⟨_, _, rfl, rfl⟩, rfl⟩

/-- O48, the two clauses of no composite operation. -/
theorem witness_jtag_counts :
    (∃ t evs, exec (.jtagSequence 0x41) (jtag (buffer 0 [1]) []) = .next t ∧
      t.trace = (jtag (buffer 0 [1]) []).trace ++ evs) ∧
    (∃ t evs, exec .swjSequence (jtag (buffer 3 [5]) []) = .next t ∧
      t.trace = (jtag (buffer 3 [5]) []).trace ++ evs) ∧ (jtag (buffer 3 [5]) []).mode = .jtag :=
  ⟨⟨_, _, rfl, rfl⟩, ⟨_, _, rfl, rfl⟩, rfl⟩

/-- O51 and O52: the acknowledge Ok, with the largest turnaround. -/
theorem witness_swd_ok :
    CanRun (.swdTransfer 0x02) (swd (swdOps 0 .four false 1) (str 7 0b1111100)) ∧ (0x02#8).getLsbD 1 = true ∧
    CanRun (.swdTransfer 0x08) (swd (swdOps 0 .four false 1) (str 7 0b1111100)) ∧ (0x08#8).getLsbD 1 = false ∧
    ((answers 7 (swd (swdOps 0 .four false 1) (str 7 0b1111100))).drop 4).take 3 = [true, false, false] :=
  ⟨⟨by decide, by decide, by decide⟩, rfl, ⟨by decide, by decide, by decide⟩, rfl, by decide⟩

/-- O53: Wait and Fault, with and without a data phase. -/
theorem witness_swd_recovery :
    CanRun (.swdTransfer 0x02) (swd (swdOps 0 .one false 0) (str 4 0b1010)) ∧
    ((answers 4 (swd (swdOps 0 .one false 0) (str 4 0b1010))).drop 1).take 3 = [false, true, false] ∧
    CanRun (.swdTransfer 0x08) (swd (swdOps 0 .one true 0) (str 4 0b1001)) ∧
    ((answers 4 (swd (swdOps 0 .one true 0) (str 4 0b1001))).drop 1).take 3 = [false, false, true] :=
  ⟨⟨by decide, by decide, by decide⟩, by decide, ⟨by decide, by decide, by decide⟩, by decide⟩

/-- O54: no target answers. -/
theorem witness_swd_protocol_error :
    CanRun (.swdTransfer 0x02) (swd plain (str 4 0b1111)) ∧
    wordOfBits 3 (((answers 4 (swd plain (str 4 0b1111))).drop 1).take 3) = 7#3 ∧
    7#3 ≠ 1#3 ∧ 7#3 ≠ 2#3 ∧ 7#3 ≠ 4#3 :=
  ⟨⟨by decide, by decide, by decide⟩, by decide, by decide, by decide, by decide⟩

/-- O55 and O56: a transfer takes a next state for an Ok, a Wait and a malformed acknowledge. -/
theorem witness_swd_transfer :
    (∃ t evs, exec (.swdTransfer 0x02) (swd plain (str 4 0b1100)) = .next t ∧
      t.trace = (swd plain (str 4 0b1100)).trace ++ evs) ∧
    (∃ t evs, exec (.swdTransfer 0x02) (swd plain (str 4 0b1010)) = .next t ∧
      t.trace = (swd plain (str 4 0b1010)).trace ++ evs) ∧
    ∃ t evs, exec (.swdTransfer 0x02) (swd plain (str 4 0b1111)) = .next t ∧
      t.trace = (swd plain (str 4 0b1111)).trace ++ evs :=
  ⟨⟨_, _, rfl, rfl⟩, ⟨_, _, rfl, rfl⟩, _, _, rfl, rfl⟩

/-- O57, the read that meets both arms at the turnaround `turn`, the parity bit as driven or complemented. -/
def readBack (turn : Turnaround) (n : Nat) (parity : Level) : State :=
  swd (swdOps 0 turn false 0)
    (List.replicate n true ++ [true, false, false] ++ wordBits 0x12345678#32 32 ++ [parity])

set_option maxRecDepth 4000 in
/-- O57, at the least and at the largest turnaround, both parities. -/
theorem witness_written_data :
    CanRun (.swdTransfer 0x02) (readBack .one 1 true) ∧ CanRun (.swdTransfer 0x02) (readBack .four 4 false) ∧
    (answers 37 (readBack .one 1 true)).drop 1 = [true, false, false] ++ writeDataBits 0x12345678#32 ∧
    (answers 40 (readBack .four 4 false)).drop 4 =
      [true, false, false] ++ wordBits 0x12345678#32 32 ++ [!parity32 0x12345678#32] :=
  ⟨⟨by decide, by decide, by decide⟩, ⟨by decide, by decide, by decide⟩, by decide, by decide⟩

set_option maxRecDepth 4000 in
/-- O57, the two turnarounds between. -/
theorem witness_written_data_middle :
    CanRun (.swdTransfer 0x02) (readBack .two 2 true) ∧ CanRun (.swdTransfer 0x02) (readBack .three 3 false) ∧
    (answers 38 (readBack .two 2 true)).drop 2 = [true, false, false] ++ writeDataBits 0x12345678#32 ∧
    (answers 39 (readBack .three 3 false)).drop 3 =
      [true, false, false] ++ wordBits 0x12345678#32 32 ++ [!parity32 0x12345678#32] :=
  ⟨⟨by decide, by decide, by decide⟩, ⟨by decide, by decide, by decide⟩, by decide, by decide⟩

end Sys2Proof.Tests
end

section
/-! The command word and the step: what the fetch answers for a decodable command, and the step that performs it. -/

namespace Sys2Proof.Machine

/-- A decodable next command is fetched as its operation, in the state `takeCommand` leaves (R40, R41). -/
theorem fetch_of_decode_ok {s : State} {c : Command} {rest : List Command} {i : Instr}
    (hprogram : s.program = c :: rest) (hdecode : decode c.word = .ok i) :
    fetch s = .operation i (takeCommand c rest s) := by
  simp only [fetch, hprogram, hdecode]

/-- A fetched operation is performed in the state it was fetched with, and nothing is around it (R70). -/
theorem step_of_fetch_operation {s t : State} {i : Instr} (hfetch : fetch s = .operation i t) :
    step s = exec i t := by
  simp only [step, hfetch]

/-- Settles O5: the step goes through the fetch, which takes the command and decodes its word; the state the
obligation writes out is the one of `takeCommand`. -/
theorem stepPerformsTheIssuedCommand : Obligations.StepPerformsTheIssuedCommand := by
  intro s c rest i hprogram hdecode
  have hfetch : fetch s = .operation i (takeCommand c rest s) := fetch_of_decode_ok hprogram hdecode
  exact step_of_fetch_operation hfetch

end Sys2Proof.Machine
end

section
/-! The reset state (10_state.md R45, R321) and the accessors that read a pin (40_line_driver.md R126 to R133). -/

namespace Sys2Proof.Machine

/-- A block that has just been reset is consistent, whatever its parameters. -/
theorem resetWith_consistent (p : Params) : Consistent (State.resetWith p) := by
  constructor <;> simp [State.resetWith, Lines.all, Written.nothing, Mem.wf, Mem.risesFrom]

/-- Settles O12: the state after reset is the reset state of the block's own parameters. -/
theorem resetIsConsistent : Obligations.ResetIsConsistent :=
  ⟨resetWith_consistent, resetWith_consistent Config.params⟩

@[simp] theorem Lines.get_all (b : Bool) (l : Line) : (Lines.all b).get l = b := by
  cases l <;> rfl

/-- Settles O13: the record fields are those of `State.resetWith`; no pin is driven because the line set is not
enabled. -/
theorem resetStateIsAsTabulated : Obligations.ResetStateIsAsTabulated := by
  intro p
  simp [State.resetWith, pinLevel, Mem.read]

/-- Everything a read of a pin does (R28, R113): `RBIT`, and an oracle level where the pin is not driven. -/
theorem pinRead_eq (l : Line) (s : State) :
    pinRead l s =
      if s.enabled = true ∧ s.oe.get l = true then
        { s with rbit := some (s.out.get l), written := { s.written with rbit := true } }
      else
        { s with
          rbit := some (oracleLevel s), written := { s.written with rbit := true }
          target := s.target.tail, samples := s.samples + 1 } := by
  simp only [pinRead, lineGet_eq, Bool.and_eq_true]
  split <;> rfl

/-- Settles O60: each of the five accessors is `pinRead` of its line. -/
theorem pinAccessorsReadPins : Obligations.PinAccessorsReadPins := by
  intro s
  have read (i : Instr) (l : Line) (h : exec i s = .next (pinRead l s)) := h.trans (congrArg _ (pinRead_eq l s))
  exact ⟨read _ .tdo rfl, read _ .swdioTms rfl, read _ .swclkTck rfl, read _ .tdi rfl, read _ .nReset rfl⟩

end Sys2Proof.Machine
end

section
/-! The continuation state follows the wire (10_state.md R23): one lemma an action in JTAG mode and in SWD mode, then
runs of actions by induction. -/

namespace Sys2Proof.Machine

/-- A latch write neither begins nor ends the continuation state (R118). -/
@[simp] theorem contUpdateOnSet_cont_isSome (l : Line) (b : Level) (s : State) :
    (contUpdateOnSet l b s).cont.isSome = s.cont.isSome := by
  unfold contUpdateOnSet
  split
  · simp
  · simp
  · split <;> simp
  · rfl

/-- A switch of direction neither begins nor ends the continuation state (R118). -/
@[simp] theorem contUpdateOnDir_cont_isSome (l : Line) (d : Bool) (s : State) :
    (contUpdateOnDir l d s).cont.isSome = s.cont.isSome := by
  unfold contUpdateOnDir
  split <;> simp

/-- The continuation bit after it was set, where there is a continuation state. -/
theorem contDrivenBit_of_map {s t : State} (b : Level) (hs : s.cont.isSome = true)
    (ht : t.cont = s.cont.map fun c => { c with lastDrivenBit := b }) : contDrivenBit t = b := by
  obtain ⟨c, hc⟩ := Option.isSome_iff_exists.mp hs
  simp [contDrivenBit, ht, hc]

/-- The continuation bit is a function of the continuation state. -/
theorem contDrivenBit_congr {s t : State} (h : t.cont = s.cont) : contDrivenBit t = contDrivenBit s := by
  simp [contDrivenBit, h]

/-- The continuation state holds the TDI and TMS latches: what JTAG mode keeps true (R23). -/
def HoldsLatches (s : State) : Prop :=
  s.cont = some { lastDrivenBit := s.out.tdi, lastModeSelectLevel := s.out.swdioTms }

/-- In JTAG mode every action but an SWCLK pulse leaves the latches in the continuation state (R118, R141). -/
theorem runAction_holdsLatches {a : Action} {s : State} (ha : notSwdCycle a = true) (hm : s.mode = .jtag)
    (h : HoldsLatches s) : HoldsLatches (runAction a s).1 := by
  unfold HoldsLatches at h ⊢
  cases a with
  | set l b => cases l <;> simp [runAction, lineSet_eq, contUpdateOnSet, hm, h]
  | dir l d => cases l <;> simp [runAction, lineDir_eq, contUpdateOnDir, hm, h]
  | enable e => exact h
  | jtag tms tdi cap => simp [runAction, jCycle_eq]
  | swdOut b => cases ha
  | swdIn cap => cases ha

theorem runActions_holdsLatches (as : List Action) (s : State) (has : as.all notSwdCycle = true)
    (hm : s.mode = .jtag) (h : HoldsLatches s) : HoldsLatches (runActions as s).1 := by
  induction as generalizing s with
  | nil => exact h
  | cons a as ih =>
    obtain ⟨ha, has⟩ : notSwdCycle a = true ∧ as.all notSwdCycle = true := by simpa using has
    exact ih _ has (by simpa using hm) (runAction_holdsLatches ha hm h)

/-- No action but a TCK pulse begins a continuation state, and none ends it. -/
theorem runAction_cont_isSome {a : Action} {s : State} (ha : notTckCycle a = true) :
    (runAction a s).1.cont.isSome = s.cont.isSome := by
  cases a with
  | set l b => simp [runAction, lineSet_eq]
  | dir l d => simp [runAction, lineDir_eq]
  | enable e => rfl
  | jtag tms tdi cap => cases ha
  | swdOut b => simp [runAction, sCycleOut_eq]
  | swdIn cap => cases cap <;> simp [runAction, sCycleIn_eq]

/-- The continuation bit after a latch write in SWD mode: the level, where SWDIO is an output (R118). -/
theorem contDrivenBit_set {s : State} (hm : s.mode = .swd) (hc : s.cont.isSome = true) (l : Line) (b : Level) :
    contDrivenBit (runAction (.set l b) s).1 =
      if l = .swdioTms ∧ s.oe.swdioTms = true then b else contDrivenBit s := by
  have hcont : (runAction (.set l b) s).1.cont = (contUpdateOnSet l b s).cont := by simp [runAction, lineSet_eq]
  by_cases h : l = .swdioTms ∧ s.oe.swdioTms = true
  · obtain ⟨rfl, ho⟩ := h
    rw [if_pos ⟨rfl, ho⟩]
    exact contDrivenBit_of_map b hc (by simp [hcont, contUpdateOnSet, hm, ho])
  · rw [if_neg h]
    apply contDrivenBit_congr
    cases l <;> simp_all [contUpdateOnSet]

/-- The continuation bit after a switch of direction in SWD mode: the latch, where SWDIO became an output (R118). -/
theorem contDrivenBit_dir {s : State} (hm : s.mode = .swd) (hc : s.cont.isSome = true) (l : Line) (d : Bool) :
    contDrivenBit (runAction (.dir l d) s).1 =
      if l = .swdioTms ∧ d = true then s.out.swdioTms else contDrivenBit s := by
  have hcont : (runAction (.dir l d) s).1.cont = (contUpdateOnDir l d s).cont := by simp [runAction, lineDir_eq]
  by_cases h : l = .swdioTms ∧ d = true
  · obtain ⟨rfl, rfl⟩ := h
    rw [if_pos ⟨rfl, rfl⟩]
    exact contDrivenBit_of_map _ hc (by simp [hcont, contUpdateOnDir, hm])
  · rw [if_neg h]
    apply contDrivenBit_congr
    cases l <;> cases d <;> simp_all [contUpdateOnDir]

/-- The continuation bit after a driven SWCLK pulse is the level driven (R142). -/
theorem contDrivenBit_swdOut {s : State} (hc : s.cont.isSome = true) (b : Option Level) :
    contDrivenBit (runAction (.swdOut b) s).1 = b.getD (contDrivenBit s) :=
  contDrivenBit_of_map _ hc (by simp [runAction, sCycleOut_eq])

/-- The continuation bit after a released SWCLK pulse is the sample, if it was recorded (R143). -/
theorem contDrivenBit_swdIn {s : State} (hc : s.cont.isSome = true) (cap : Bool) :
    contDrivenBit (runAction (.swdIn cap) s).1 = if cap then oracleLevel s else contDrivenBit s := by
  cases cap with
  | true => exact contDrivenBit_of_map _ hc (by simp [runAction, sCycleIn_eq])
  | false => exact contDrivenBit_congr (by simp [runAction, sCycleIn_eq])

/-- SWDIO after an action of SWD mode is what the emitted event says of it (R23). -/
theorem runAction_swdioWire {a : Action} {s : State} (ha : notTckCycle a = true) (hm : s.mode = .swd)
    (hc : s.cont.isSome = true) : swdioWire (runAction a s).1 = (swdioWire s).next (actionEvent a s) := by
  cases a with
  | set l b =>
    rw [swdioWire, contDrivenBit_set hm hc]
    by_cases hl : l = .swdioTms
    · subst hl
      cases ho : s.oe.swdioTms <;> simp [actionEvent, swdioWire, runAction, lineSet_eq, ho]
    · rw [actionEvent, SwdioWire.next_lvl_other _ _ hl]
      cases l <;> simp_all [swdioWire, runAction, lineSet_eq]
  | dir l d =>
    rw [swdioWire, contDrivenBit_dir hm hc]
    by_cases hl : l = .swdioTms
    · subst hl
      simp [actionEvent, swdioWire, runAction, lineDir_eq]
    · rw [actionEvent, SwdioWire.next_dir_other _ _ hl]
      cases l <;> simp_all [swdioWire, runAction, lineDir_eq]
  | enable e => rfl
  | jtag tms tdi cap => cases ha
  | swdOut b =>
    rw [swdioWire, contDrivenBit_swdOut hc]
    simp [swdioWire, actionEvent, runAction, sCycleOut_eq]
  | swdIn cap =>
    rw [swdioWire, contDrivenBit_swdIn hc]
    simp [swdioWire, actionEvent, runAction, sCycleIn_eq]

theorem runActions_swdioWire (as : List Action) (s : State) (has : as.all notTckCycle = true) (hm : s.mode = .swd)
    (hc : s.cont.isSome = true) :
    ∃ evs, (runActions as s).1.trace = s.trace ++ evs ∧ (runActions as s).1.cont.isSome = true ∧
      swdioWire (runActions as s).1 = evs.foldl SwdioWire.next (swdioWire s) := by
  induction as generalizing s with
  | nil => exact ⟨[], by simp, hc, rfl⟩
  | cons a as ih =>
    obtain ⟨ha, has⟩ : notTckCycle a = true ∧ as.all notTckCycle = true := by simpa using has
    obtain ⟨evs, htrace, hsome, hwire⟩ :=
      ih (runAction a s).1 has (by simpa using hm) ((runAction_cont_isSome ha).trans hc)
    refine ⟨actionEvent a s :: evs, ?_, hsome, ?_⟩
    · simpa [runActions_cons, runAction_trace] using htrace
    · simpa [runActions_cons, runAction_swdioWire ha hm hc] using hwire

/-- Settles O20: JTAG mode by `runActions_holdsLatches`, SWD mode by `runActions_swdioWire`, and each single action by
its own lemma. -/
theorem continuationFollowsTheWire : Obligations.ContinuationFollowsTheWire := by
  refine ⟨runActions_holdsLatches, runActions_swdioWire, fun s hm hc => ?_⟩
  refine ⟨fun b => ?_, fun b => ?_, fun d => ?_, contDrivenBit_swdIn hc⟩
  · rw [contDrivenBit_swdOut hc]
    simp [runAction, sCycleOut_eq]
  · rw [contDrivenBit_set hm hc]
    simp [runAction, lineSet_eq]
  · simp [contDrivenBit_dir hm hc]

end Sys2Proof.Machine
end

section
/-! The common shape of every operation (60_exceptions.md R299, R334): the conditions that refuse it, the wait for the
engine, and the state in which it ends. -/

namespace Sys2Proof.Machine

/-- The conditions that refuse an operation, in the order the model examines them (R98, R146, R172, R249, R270). -/
def refusals (i : Instr) (s : State) : List (Option Refusal) :=
  match i with
  | .clockSequence _ _ outPresent =>
    [needsActiveMode s, countCheck s, if outPresent then bufferCheck (countOperand s) s else none]
  | .jtagSequence info => [needsJtag s, bufferCheck (seqCount info) s]
  | .swdSequence info => [needsSwd s, if infoCapture info then none else bufferCheck (seqCount info) s]
  | .swjSequence => [countCheck s, bufferCheck (countOperand s) s]
  | .jtagReadIdcode => [needsJtag s, chainCheck s]
  | .jtagIr => [needsJtag s, chainCheck s, irLengthCheck s]
  | .jtagDr => [needsJtag s, chainCheck s, bitCountCheck s, bufferCheck (countOperand s) s]
  | .jtagTransfer _ _ => [needsJtag s, chainCheck s, timestampCheck s]
  | .jtagWriteAbort => [needsJtag s, chainCheck s, timestampCheck s]
  | .swdTransfer _ => [needsSwd s, timestampCheck s]
  | _ => []

/-- The state in which an operation ends where it completes. -/
def completed (i : Instr) (s : State) : State :=
  match i with
  | .portOff => tearDown s
  | .portJtagSetup => portSetup .jtag .jtag jtagSetupActions s
  | .portSwdSetup => portSetup .swd .swd swdSetupActions s
  | .clockSequence cap held outPresent =>
    clockSequence (countOperand s) held cap (if outPresent then some (txBits (countOperand s) s) else none) s
  | .jtagSequence info =>
    clockSequence (seqCount info) (infoTms info) (infoCapture info) (some (txBits (seqCount info) s)) s
  | .swdSequence info =>
    clockSequence (seqCount info) (contModeSelect s) (infoCapture info)
      (if infoCapture info then none else some (txBits (seqCount info) s)) s
  | .swjSequence => (runActions (swjActions s.mode (txBits (countOperand s) s)) s).1
  | .jtagReadIdcode => jtagReadIdcode s
  | .jtagIr => jtagIr s
  | .jtagDr => jtagDr s
  | .jtagTransfer request checkAck => jtagTransfer request checkAck s
  | .jtagWriteAbort => jtagWriteAbort s
  | .swdTransfer request => swdTransfer request s
  | .pinSwclkTckSet => lineSet .swclkTck true s
  | .pinSwclkTckClr => lineSet .swclkTck false s
  | .pinSwdioOut level _ => lineSet .swdioTms level s
  | .pinSwdioOutEnable => lineDir .swdioTms true s
  | .pinSwdioOutDisable => lineDir .swdioTms false s
  | .pinTdiOut level _ => lineSet .tdi level s
  | .pinTdoIn => pinRead .tdo s
  | .pinNResetOut level _ => lineSet .nReset level s
  | .pinSwdioTmsSet => lineSet .swdioTms true s
  | .pinSwdioTmsClr => lineSet .swdioTms false s
  | .pinSwdioIn => pinRead .swdioTms s
  | .pinSwclkTckIn => pinRead .swclkTck s
  | .pinTdiIn => pinRead .tdi s
  | .pinNResetIn => pinRead .nReset s

/-- Every operation is refused, or waits for the engine if it clocks a cycle, or ends in `completed` (R299, R334). -/
theorem exec_eq (i : Instr) (s : State) :
    exec i s =
      unlessRefused (refusals i s)
        (if clocksCycles i s then unlessStuck s (.next (completed i s)) else .next (completed i s)) := by
  cases i with
  | clockSequence cap held outPresent =>
    by_cases h : countOperand s = 0 <;>
      simp [exec, execClockSequence, refusals, completed, clocksCycles, clockSequence, h]
  | swjSequence =>
    by_cases h : countOperand s = 0 ∨ s.mode = .disabled
    · simp only [exec, execSwjSequence, refusals, completed, clocksCycles, h, if_true]
      rcases h with h | h <;> simp [h]
    · obtain ⟨hcount, hmode⟩ := not_or.mp h
      simp [exec, execSwjSequence, refusals, completed, clocksCycles, hcount, hmode]
  | _ => rfl

/-- What it says of an operation that it answers a next state: nothing refuses it, the engine does not hang, and the
state is the one it ends in. -/
theorem exec_next {i : Instr} {s t : State} (h : exec i s = .next t) :
    (∀ c ∈ refusals i s, c = none) ∧ t = completed i s := by
  rw [exec_eq, unlessRefused_next] at h
  obtain ⟨hchecks, hrun⟩ := h
  refine ⟨hchecks, ?_⟩
  split at hrun
  · obtain ⟨-, hrun⟩ := unlessStuck_next.mp hrun
    exact (Host.Outcome.next.inj hrun).symm
  · exact (Host.Outcome.next.inj hrun).symm

/-- An operation that nothing refuses has the mode it needs (R98). -/
theorem performedIn_of_refusals {i : Instr} {s : State} (h : ∀ c ∈ refusals i s, c = none) :
    performedIn i s.mode = true := by
  cases i <;> simp_all [refusals, performedIn]

end Sys2Proof.Machine
end

section
/-! What an operation can do to the state, said once: `Performs` lists the changes an operation may make, and every
completed operation makes only those. -/

namespace Sys2Proof.Machine

/-- The wire actions of the operations that are not mode operations, with the active mode and with SWDIO an output or
not: cycles of the mode's own protocol, latch writes, the direction of SWDIO, but no recorded sample of a line that the
block drives. -/
def Action.permitted (m : Mode) (output : Bool) : Action → Bool
  | .set _ _ => true
  | .dir l _ => l == .swdioTms
  | .enable _ => false
  | .jtag _ _ _ => m == .jtag
  | .swdOut _ => m == .swd
  | .swdIn cap => m == .swd && !(cap && output)

/-- Whether SWDIO is an output after an action. -/
def Action.outputAfter (output : Bool) : Action → Bool
  | .dir .swdioTms d => d
  | _ => output

/-- Every action of a list is permitted where it stands. -/
def permittedRun (m : Mode) : Bool → List Action → Bool
  | _, [] => true
  | output, a :: as => a.permitted m output && permittedRun m (a.outputAfter output) as

/-- The direction of SWDIO after an action is the one its name tells. -/
theorem runAction_oe_swdioTms (a : Action) (s : State) :
    (runAction a s).1.oe.swdioTms = a.outputAfter s.oe.swdioTms := by
  cases a with
  | dir l d => cases l <;> simp [runAction, lineDir_eq, Action.outputAfter]
  | set l b => simp [runAction, lineSet_eq, Action.outputAfter]
  | enable e => rfl
  | jtag tms tdi cap => rfl
  | swdOut b => rfl
  | swdIn cap => simp [runAction, sCycleIn_eq, Action.outputAfter]

theorem runActions_oe_swdioTms (as : List Action) (s : State) :
    (runActions as s).1.oe.swdioTms = as.foldl Action.outputAfter s.oe.swdioTms := by
  induction as generalizing s with
  | nil => rfl
  | cons a as ih => simp [runActions_cons, ih, runAction_oe_swdioTms]

theorem permittedRun_append (m : Mode) (output : Bool) (as bs : List Action) :
    permittedRun m output (as ++ bs) =
      (permittedRun m output as && permittedRun m (as.foldl Action.outputAfter output) bs) := by
  induction as generalizing output with
  | nil => simp [permittedRun]
  | cons a as ih => simp [permittedRun, ih, Bool.and_assoc]

/-- A cycle or a latch write keeps the direction of SWDIO. -/
def Action.keepsDirection : Action → Bool
  | .dir _ _ => false
  | _ => true

theorem foldl_outputAfter_of_keeps {as : List Action} (output : Bool) (h : ∀ a ∈ as, a.keepsDirection = true) :
    as.foldl Action.outputAfter output = output := by
  induction as with
  | nil => rfl
  | cons a as ih =>
    obtain ⟨ha, has⟩ := List.forall_mem_cons.mp h
    have : a.outputAfter output = output := by
      cases a with
      | dir l d => cases ha
      | _ => rfl
    simp [this, ih has]

/-- A list that does not switch SWDIO is permitted when each of its actions is. -/
theorem permittedRun_of_keeps {m : Mode} {output : Bool} {as : List Action}
    (h : ∀ a ∈ as, a.permitted m output = true ∧ a.keepsDirection = true) : permittedRun m output as = true := by
  induction as with
  | nil => rfl
  | cons a as ih =>
    obtain ⟨⟨hp, hk⟩, has⟩ := List.forall_mem_cons.mp h
    have hkeep : a.outputAfter output = output := foldl_outputAfter_of_keeps (as := [a]) output (by simpa using hk)
    simp [permittedRun, hp, hkeep, ih has]

/-- The changes an operation makes, one after the other: wire actions, the held level of a sequence, an oracle level
used up, the results it may write, and for a mode operation the fields of R21, R22, R26, R27 and R30. -/
inductive Performs (i : Instr) (s : State) : State → Prop
  | start : Performs i s s
  | action {t : State} (a : Action) (h : isModeOperation i = true ∨ a.permitted t.mode t.oe.swdioTms = true) :
      Performs i s t → Performs i s (runAction a t).1
  | select {t : State} (m : Mode) (c : Option Continuation) (x : Source) (slew : Nat) (o : Owner)
      (h : isModeOperation i = true) :
      Performs i s t → Performs i s { t with mode := m, cont := c, src := x, slew := slew, shiftOwner := o }
  | held {t : State} (b : Level) : Performs i s t → Performs i s (recordHeld b t)
  | sample {t : State} : Performs i s t → Performs i s (consumeSample t)
  | capture {t : State} (bits : List Level) (h : writesRxbuf i = true) :
      Performs i s t → Performs i s (storeCapture bits t)
  | ack {t : State} (a : BitVec 3) (h : writesAck i = true) : Performs i s t → Performs i s (writeAck a t)
  | perr {t : State} (e : Bool) (h : writesPerr i = true) : Performs i s t → Performs i s (writePerr e t)
  | ok {t : State} (k : Bool) (h : writesOk i = true) : Performs i s t → Performs i s (writeOk k t)
  | rdata {t : State} (v : Word) (h : writesRdata i = true) : Performs i s t → Performs i s (writeRdata v t)
  | rbit {t : State} (b : Level) (h : writesRbit i = true) : Performs i s t → Performs i s (writeRbit b t)

/-- A permitted list of actions. -/
theorem Performs.run {i : Instr} {s t : State} {as : List Action}
    (has : permittedRun t.mode t.oe.swdioTms as = true) (h : Performs i s t) :
    Performs i s (runActions as t).1 := by
  induction as generalizing t with
  | nil => exact h
  | cons a as ih =>
    obtain ⟨ha, has⟩ : a.permitted t.mode t.oe.swdioTms = true ∧
        permittedRun t.mode (a.outputAfter t.oe.swdioTms) as = true := by simpa [permittedRun] using has
    exact ih (by rwa [runAction_mode, runAction_oe_swdioTms]) (h.action a (.inr ha))

/-- Any list of actions of a mode operation. -/
theorem Performs.runMode {i : Instr} {s t : State} (hi : isModeOperation i = true) (as : List Action)
    (h : Performs i s t) : Performs i s (runActions as t).1 := by
  induction as generalizing t with
  | nil => exact h
  | cons a as ih => exact ih (h.action a (.inl hi))

/-! ### The action lists of the operations -/

/-- The actions of the JTAG operations: TCK pulses and latch writes. -/
def Action.tckOrLatch : Action → Bool
  | .set _ _ => true
  | .jtag _ _ _ => true
  | _ => false

/-- A list of TCK pulses and latch writes. -/
def TckOrLatches (as : List Action) : Prop := ∀ a ∈ as, a.tckOrLatch = true

@[simp] theorem TckOrLatches.nil : TckOrLatches [] := fun _ h => nomatch h

@[simp] theorem TckOrLatches.cons_iff (a : Action) (as : List Action) :
    TckOrLatches (a :: as) ↔ a.tckOrLatch = true ∧ TckOrLatches as := List.forall_mem_cons

@[simp] theorem TckOrLatches.append_iff (as bs : List Action) :
    TckOrLatches (as ++ bs) ↔ TckOrLatches as ∧ TckOrLatches bs := List.forall_mem_append

@[simp] theorem Action.tckOrLatch_set (l : Line) (b : Level) : (Action.set l b).tckOrLatch = true := rfl

@[simp] theorem Action.tckOrLatch_jtag (tms : Level) (tdi : Option Level) (cap : Bool) :
    (Action.jtag tms tdi cap).tckOrLatch = true := rfl

theorem permittedRun_of_tckOrLatches {output : Bool} {as : List Action} (h : TckOrLatches as) :
    permittedRun .jtag output as = true := by
  apply permittedRun_of_keeps
  intro a ha
  have := h a ha
  cases a <;> simp_all [Action.tckOrLatch, Action.permitted, Action.keepsDirection]

@[simp] theorem walk_tckOrLatches (p : List Level) : TckOrLatches (walk p) :=
  List.forall_mem_map.mpr fun _ _ => rfl

@[simp] theorem fillers_tckOrLatches (n : Nat) (fill : Option Level) : TckOrLatches (fillers n fill) :=
  List.forall_mem_replicate.mpr (.inr rfl)

@[simp] theorem payloadCycles_tckOrLatches (bits : List (Option Level)) (cap : Bool) :
    TckOrLatches (payloadCycles bits cap) :=
  List.forall_mem_map.mpr fun _ _ => rfl

@[simp] theorem shiftPayload_tckOrLatches (payload : List (Option Level)) (cap : Bool) (na : Nat)
    (fa : Option Level) : TckOrLatches (shiftPayload payload cap na fa).actions := by
  unfold shiftPayload
  split <;> simp

@[simp] theorem shiftBody_tckOrLatches (payload : List (Option Level)) (cap : Bool) (nb : Nat) (fb : Option Level)
    (na : Nat) (fa : Option Level) : TckOrLatches (shiftBody payload cap nb fb na fa).actions := by
  simp [shiftBody]

@[simp] theorem tail_tckOrLatches (idle : Nat) (park : Bool) : TckOrLatches (tail idle park).actions := by
  cases park <;> simp [tail]

theorem idcodePhases_tckOrLatches (fromReset : Bool) (c : ChainPosition) :
    TckOrLatches (idcodePhases fromReset c).actions := by
  cases fromReset <;> simp [idcodePhases]

theorem irPhases_tckOrLatches (ir : Word) (len : Nat) (c : ChainPosition) :
    TckOrLatches (irPhases ir len c).actions := by
  simp [irPhases]

theorem drPhases_tckOrLatches (bits : List Level) (c : ChainPosition) :
    TckOrLatches (drPhases bits c).actions := by
  simp [drPhases]

@[simp] theorem transferRequest_tckOrLatches (request : Byte) (c : ChainPosition) :
    TckOrLatches (transferRequest request c).actions := by
  simp [transferRequest]

theorem transferRest_tckOrLatches (abort : Bool) (request : Byte) (data : Word) (idle : Nat) (c : ChainPosition) :
    TckOrLatches (transferRest abort request data idle c).actions := by
  cases abort <;> cases h : reqRnW request <;>
    simp [transferRest, h, transferRead, transferWrite, transferAbort]

theorem writeAbortPhases_tckOrLatches (data : Word) (idle : Nat) (c : ChainPosition) :
    TckOrLatches (writeAbortPhases data idle c).actions := by
  simp [writeAbortPhases, transferWrite]

/-- Driven SWCLK pulses are permitted and keep the direction of SWDIO. -/
@[simp] theorem permittedRun_drivenCycles (output : Bool) (bits : List Level) :
    permittedRun .swd output (drivenCycles bits) = true :=
  permittedRun_of_keeps (List.forall_mem_map.mpr fun _ _ => ⟨rfl, rfl⟩)

@[simp] theorem foldl_outputAfter_drivenCycles (output : Bool) (bits : List Level) :
    (drivenCycles bits).foldl Action.outputAfter output = output :=
  foldl_outputAfter_of_keeps output (List.forall_mem_map.mpr fun _ _ => rfl)

/-- Released SWCLK pulses are permitted, recorded ones while SWDIO is an input, and keep its direction. -/
@[simp] theorem permittedRun_releasedCycles (output : Bool) (n : Nat) :
    permittedRun .swd output (releasedCycles n) = true :=
  permittedRun_of_keeps (List.forall_mem_replicate.mpr (.inr ⟨rfl, rfl⟩))

@[simp] theorem foldl_outputAfter_releasedCycles (output : Bool) (n : Nat) :
    (releasedCycles n).foldl Action.outputAfter output = output :=
  foldl_outputAfter_of_keeps output (List.forall_mem_replicate.mpr (.inr rfl))

@[simp] theorem permittedRun_recordedCycles (n : Nat) : permittedRun .swd false (recordedCycles n) = true :=
  permittedRun_of_keeps (List.forall_mem_replicate.mpr (.inr ⟨rfl, rfl⟩))

@[simp] theorem foldl_outputAfter_recordedCycles (output : Bool) (n : Nat) :
    (recordedCycles n).foldl Action.outputAfter output = output :=
  foldl_outputAfter_of_keeps output (List.forall_mem_replicate.mpr (.inr rfl))

/-- The request half of a transfer is permitted and leaves SWDIO an input (R229 to R231). -/
theorem permittedRun_swdRequest (output : Bool) (request : Byte) (turn : Nat) :
    permittedRun .swd output (swdRequestPhases request turn).actions = true := by
  simp [swdRequestPhases, swdDrive, swdRelease, permittedRun, permittedRun_append, Action.permitted,
    Action.outputAfter]

theorem swdRequest_releases (output : Bool) (request : Byte) (turn : Nat) :
    (swdRequestPhases request turn).actions.foldl Action.outputAfter output = false := by
  simp [swdRequestPhases, swdDrive, swdRelease, Action.outputAfter]

/-- The half after the acknowledge is permitted where SWDIO is an input: samples are recorded before `SwdOut()` only
(R232 to R241). -/
theorem permittedRun_swdRest (ack : SwdAck) (rnw d : Bool) (data : Word) (turn idle : Nat) :
    permittedRun .swd false (swdRestPhases ack rnw d data turn idle).actions = true := by
  have hrecovery : permittedRun .swd false (swdRecoveryPhases rnw d turn).actions = true := by
    cases rnw <;> cases d <;>
      simp [swdRecoveryPhases, swdPark, swdDrive, permittedRun, permittedRun_append, Action.permitted]
  cases ack with
  | ok =>
    cases rnw <;>
      simp [swdRestPhases, swdReadPhases, swdWritePhases, swdIdle, swdPark, swdDrive, permittedRun,
        permittedRun_append, Action.permitted]
  | wait => exact hrecovery
  | fault => exact hrecovery
  | protocolError =>
    simp [swdRestPhases, swdResyncPhases, swdPark, swdDrive, permittedRun, permittedRun_append, Action.permitted]

/-- The cycles of `clockSequence` are permitted in the mode they are for: a capture releases SWDIO first (R146,
R153). -/
theorem permittedRun_clockActions (m : Mode) (output : Bool) (n : Nat) (held : Level) (cap : Bool)
    (out : Option (List Level)) : permittedRun m output (clockActions m n held cap out) = true := by
  cases m with
  | jtag => exact permittedRun_of_tckOrLatches (List.forall_mem_map.mpr fun _ _ => rfl)
  | swd =>
    cases cap with
    | true => exact permittedRun_recordedCycles n
    | false => exact permittedRun_of_keeps (output := true) (List.forall_mem_map.mpr fun _ _ => ⟨rfl, rfl⟩)
  | disabled => rfl

/-- The cycles of `SWJ_SEQUENCE` are permitted in every mode (R270). -/
theorem permittedRun_swjActions (m : Mode) (output : Bool) (bits : List Level) :
    permittedRun m output (swjActions m bits) = true := by
  unfold swjActions
  split
  · rfl
  · cases m with
    | jtag => exact permittedRun_of_tckOrLatches (walk_tckOrLatches bits)
    | swd => exact permittedRun_drivenCycles true bits
    | disabled =>
      apply permittedRun_of_keeps
      simp only [swjFallback, List.forall_mem_flatMap, List.forall_mem_cons]
      exact fun b _ => ⟨⟨rfl, rfl⟩, ⟨rfl, rfl⟩, ⟨rfl, rfl⟩, fun _ h => nomatch h⟩

/-! ### Every completed operation makes only the changes of `Performs` -/

theorem Performs.clockSequence {i : Instr} {s : State} (n : Nat) (held : Level) (cap : Bool)
    (out : Option (List Level)) (hcap : cap = true → writesRxbuf i = true) :
    Performs i s (clockSequence n held cap out s) := by
  unfold Machine.clockSequence
  have hrun : Performs i s (runActions (clockActions s.mode n held cap out) s).1 :=
    start.run (permittedRun_clockActions ..)
  split
  · exact start
  · cases cap with
    | true => exact (hrun.capture _ (hcap rfl)).held held
    | false => exact hrun.held held

theorem Performs.tckRun {i : Instr} {s t : State} {p : Phased} (hm : t.mode = .jtag)
    (hp : TckOrLatches p.actions) (h : Performs i s t) : Performs i s (runPhased p t).1 :=
  h.run (by rw [hm]; exact permittedRun_of_tckOrLatches hp)

theorem Performs.jtagTransfer {s : State} (request : Byte) (checkAck : Bool) (hm : s.mode = .jtag) :
    Performs (.jtagTransfer request checkAck) s (jtagTransfer request checkAck s) := by
  have hrequest : Performs (.jtagTransfer request checkAck) s
      (runPhased (transferRequest request s.operands.cfg.chain) s).1 :=
    start.tckRun hm (transferRequest_tckOrLatches _ _)
  unfold Machine.jtagTransfer
  refine .ack _ rfl ?_
  have hrest (abort : Bool) := hrequest.tckRun (by simpa [runPhased] using hm)
    (transferRest_tckOrLatches abort request s.operands.data (idleCount s) s.operands.cfg.chain)
  split
  · next hread =>
    simp only [Bool.and_eq_true] at hread
    exact (hrest _).rdata _ hread.2
  · exact hrest _

theorem Performs.swdTransfer {s : State} (request : Byte) (hm : s.mode = .swd) :
    Performs (.swdTransfer request) s (swdTransfer request s) := by
  have hrequest : Performs (.swdTransfer request) s (runPhased (swdRequestPhases request (turnCycles s)) s).1 :=
    start.run (by rw [hm]; exact permittedRun_swdRequest ..)
  have hrest (ack : SwdAck) := hrequest.run (as := (swdRestPhases ack (reqRnW request)
      s.operands.cfg.swd.dataPhaseOnError s.operands.data (turnCycles s) (idleCount s)).actions) (by
    rw [runPhased, runActions_mode, runActions_oe_swdioTms, swdRequest_releases, hm]
    exact permittedRun_swdRest ..)
  unfold Machine.swdTransfer
  refine .ack _ rfl (.perr _ rfl ?_)
  split
  · next hread =>
    simp only [Bool.and_eq_true] at hread
    exact (hrest _).rdata _ hread.2
  · exact hrest _

theorem Performs.tearDown {i : Instr} {s : State} (hi : isModeOperation i = true) : Performs i s (tearDown s) :=
  (start.select .disabled none .latch s.slew (releasedOwner s.shiftOwner) hi).runMode hi tearDownActions

theorem Performs.portSetup {i : Instr} {s : State} (m : Mode) (owner : Owner) (lines : List Action)
    (hi : isModeOperation i = true) (hok : writesOk i = true) : Performs i s (portSetup m owner lines s) := by
  have hdown : Performs i s (Machine.tearDown s) := tearDown hi
  unfold Machine.portSetup
  simp only
  split
  · exact (hdown.select _ _ _ _ .trace hi).ok _ hok
  · have hselect (x : Source) (o : Owner) :=
      hdown.select m (some ⟨true, true⟩) x (Machine.tearDown s).params.slew o hi
    refine .ok _ hok (.runMode hi lines ?_)
    unfold enterMode claimEngine
    split
    · exact hselect .shifter owner
    · exact hselect _ _

theorem Performs.set {i : Instr} {s : State} (l : Line) (b : Level) : Performs i s (lineSet l b s) :=
  start.action (.set l b) (.inr rfl)

theorem Performs.swdioDir {i : Instr} {s : State} (d : Bool) : Performs i s (lineDir .swdioTms d s) :=
  start.action (.dir .swdioTms d) (.inr rfl)

theorem Performs.pinRead {i : Instr} {s : State} (l : Line) (hi : writesRbit i = true) :
    Performs i s (pinRead l s) := by
  unfold Machine.pinRead lineGet
  split
  · exact start.rbit _ hi
  · exact start.sample.rbit _ hi

/-- Every operation, in the mode it needs. -/
theorem completed_performs {i : Instr} {s : State} (hm : performedIn i s.mode = true) :
    Performs i s (completed i s) := by
  cases i with
  | portOff => exact .tearDown rfl
  | portJtagSetup => exact .portSetup _ _ _ rfl rfl
  | portSwdSetup => exact .portSetup _ _ _ rfl rfl
  | clockSequence cap held outPresent => exact .clockSequence _ _ _ _ id
  | jtagSequence info => exact .clockSequence _ _ _ _ id
  | swdSequence info => exact .clockSequence _ _ _ _ id
  | swjSequence => exact Performs.start.run (permittedRun_swjActions ..)
  | jtagReadIdcode => exact (Performs.start.tckRun (eq_of_beq hm) (idcodePhases_tckOrLatches _ _)).rdata _ rfl
  | jtagIr => exact (Performs.start.tckRun (eq_of_beq hm) (irPhases_tckOrLatches _ _ _)).rdata _ rfl
  | jtagDr => exact (Performs.start.tckRun (eq_of_beq hm) (drPhases_tckOrLatches _ _)).capture _ rfl
  | jtagTransfer request checkAck => exact .jtagTransfer _ _ (eq_of_beq hm)
  | jtagWriteAbort => exact Performs.start.tckRun (eq_of_beq hm) (writeAbortPhases_tckOrLatches _ _ _)
  | swdTransfer request => exact .swdTransfer _ (eq_of_beq hm)
  | pinSwdioOutEnable => exact .swdioDir true
  | pinSwdioOutDisable => exact .swdioDir false
  | pinTdoIn => exact .pinRead .tdo rfl
  | pinSwdioIn => exact .pinRead .swdioTms rfl
  | pinSwclkTckIn => exact .pinRead .swclkTck rfl
  | pinTdiIn => exact .pinRead .tdi rfl
  | pinNResetIn => exact .pinRead .nReset rfl
  | _ => exact .set _ _

theorem exec_performs {i : Instr} {s t : State} (h : exec i s = .next t) : Performs i s t := by
  obtain ⟨hchecks, rfl⟩ := exec_next h
  exact completed_performs (performedIn_of_refusals hchecks)

end Sys2Proof.Machine
end

section
/-! What no operation, and what no operation but a mode operation, changes (10_state.md R21 to R41, 20_memory.md R70),
by induction on the changes of `Performs`. -/

namespace Sys2Proof.Machine

/-- Everything the end of a sequence does (R148): the held level, in the continuation state. -/
theorem recordHeld_eq (b : Level) (s : State) :
    recordHeld b s =
      { s with
        cont := if s.mode = .swd then s.cont.map fun c => { c with lastModeSelectLevel := b } else s.cont } := by
  unfold recordHeld
  split
  · next hm => rw [if_pos hm]; rfl
  · next hm => rw [if_neg (by simp [hm])]
  · next hm => rw [if_neg (by simp [hm])]

/-- Only a mode operation changes the mode, the multiplexer, the slew setting, the owner and the enable. -/
theorem Performs.selection {i : Instr} {s t : State} (h : Performs i s t) (hi : isModeOperation i = false) :
    t.mode = s.mode ∧ t.src = s.src ∧ t.slew = s.slew ∧ t.shiftOwner = s.shiftOwner ∧
      t.enabled = s.enabled := by
  induction h with
  | start => exact ⟨rfl, rfl, rfl, rfl, rfl⟩
  | @action t a ha _ ih =>
    have henabled : (runAction a t).1.enabled = t.enabled := by
      cases a with
      | enable e => simp [hi, Action.permitted] at ha
      | _ => simp [runAction, lineSet_eq, lineDir_eq, jCycle_eq, sCycleOut_eq, sCycleIn_eq]
    simpa [henabled] using ih
  | select m c x slew o hmode => simp [hi] at hmode
  | held b _ ih => simpa [recordHeld_eq] using ih
  | _ => assumption

/-- Settles O15: every completed operation makes only the changes of `Performs`. -/
theorem onlyModeOperationsReconfigure : Obligations.OnlyModeOperationsReconfigure :=
  fun _ _ _ hi h => (exec_performs h).selection hi

/-- No change an operation can make writes its operands, the parameters, the issued commands or the engine's input, and
each one keeps the events emitted before it. -/
theorem Performs.operands {i : Instr} {s t : State} (h : Performs i s t) :
    t.operands = s.operands ∧ t.params = s.params ∧ t.program = s.program ∧ t.engineReady = s.engineReady ∧
      ∃ evs, t.trace = s.trace ++ evs := by
  induction h with
  | start => exact ⟨rfl, rfl, rfl, rfl, [], by simp⟩
  | @action t a _ _ ih =>
    obtain ⟨ho, hp, hprogram, hready, evs, htrace⟩ := ih
    exact ⟨by simp [ho], by simp [hp], by simp [hprogram], by simp [hready], evs ++ [actionEvent a t],
      by simp [runAction_trace, htrace]⟩
  | held b _ ih => simpa [recordHeld_eq] using ih
  | _ => assumption

/-- Settles O16: every completed operation makes only the changes of `Performs`. -/
theorem operandsAreNeverWritten : Obligations.OperandsAreNeverWritten :=
  fun _ _ _ h => (exec_performs h).operands

/-- Two states with the same results, and the same told of which of them were written. -/
structure SameResults (s t : State) : Prop where
  ack : t.ack = s.ack
  perr : t.perr = s.perr
  ok : t.ok = s.ok
  rdata : t.rdata = s.rdata
  rxbuf : t.rxbuf = s.rxbuf
  rbit : t.rbit = s.rbit
  written : t.written = s.written

/-- No wire action writes a result. -/
theorem runAction_sameResults (a : Action) (s : State) : SameResults s (runAction a s).1 := by
  constructor <;> simp

/-- The end of a sequence writes no result. -/
theorem recordHeld_sameResults (b : Level) (s : State) : SameResults s (recordHeld b s) := by
  rw [recordHeld_eq]
  exact ⟨rfl, rfl, rfl, rfl, rfl, rfl, rfl⟩

/-- The results an operation does not write are as they were, with what is told of them (R41). -/
structure SameResultsBut (i : Instr) (s t : State) : Prop where
  ack : writesAck i = false → t.ack = s.ack ∧ t.written.ack = s.written.ack
  perr : writesPerr i = false → t.perr = s.perr ∧ t.written.perr = s.written.perr
  ok : writesOk i = false → t.ok = s.ok ∧ t.written.ok = s.written.ok
  rdata : writesRdata i = false → t.rdata = s.rdata ∧ t.written.rdata = s.written.rdata
  rxbuf : writesRxbuf i = false → t.rxbuf = s.rxbuf ∧ t.written.rxBytes = s.written.rxBytes
  rbit : writesRbit i = false → t.rbit = s.rbit ∧ t.written.rbit = s.written.rbit

theorem SameResultsBut.of_same {i : Instr} {s t u : State} (h : SameResultsBut i s t) (hu : SameResults t u) :
    SameResultsBut i s u := by
  constructor
  · rw [hu.ack, hu.written]; exact h.ack
  · rw [hu.perr, hu.written]; exact h.perr
  · rw [hu.ok, hu.written]; exact h.ok
  · rw [hu.rdata, hu.written]; exact h.rdata
  · rw [hu.rxbuf, hu.written]; exact h.rxbuf
  · rw [hu.rbit, hu.written]; exact h.rbit

/-- A result the operation does not write keeps its register and its flag. -/
theorem Performs.sameResultsBut {i : Instr} {s t : State} (h : Performs i s t) : SameResultsBut i s t := by
  induction h with
  | start => constructor <;> exact fun _ => ⟨rfl, rfl⟩
  | action a _ _ ih => exact ih.of_same (runAction_sameResults a _)
  | select m c x slew o _ _ ih => exact ih.of_same ⟨rfl, rfl, rfl, rfl, rfl, rfl, rfl⟩
  | held b _ ih => exact ih.of_same (recordHeld_sameResults b _)
  | sample _ ih => exact ih.of_same ⟨rfl, rfl, rfl, rfl, rfl, rfl, rfl⟩
  | capture bits hw _ ih => exact { ih with rxbuf := by simp [hw] }
  | ack a hw _ ih => exact { ih with ack := by simp [hw] }
  | perr e hw _ ih => exact { ih with perr := by simp [hw] }
  | ok k hw _ ih => exact { ih with ok := by simp [hw] }
  | rdata v hw _ ih => exact { ih with rdata := by simp [hw] }
  | rbit b hw _ ih => exact { ih with rbit := by simp [hw] }

/-- Settles O17: every completed operation makes only the changes of `Performs`. -/
theorem unwrittenResultsAreKept : Obligations.UnwrittenResultsAreKept := by
  intro i s t h
  have hsame : SameResultsBut i s t := (exec_performs h).sameResultsBut
  exact ⟨hsame.ack, hsame.perr, hsame.ok, hsame.rdata, hsame.rxbuf, hsame.rbit⟩

end Sys2Proof.Machine
end

section
/-! What an operation returns (10_state.md R41, R45, U22): which results it has written, told exactly, and that each of
them holds a value. -/

namespace Sys2Proof.Machine

/-! ### How many samples an operation captures -/

/-- Whether a cycle records its sample. -/
def Action.captures : Action → Bool
  | .jtag _ _ cap => cap
  | .swdIn cap => cap
  | _ => false

/-- A run captures one level for each recording cycle. -/
theorem runActions_captured_length (as : List Action) (s : State) :
    (runActions as s).2.length = as.countP Action.captures := by
  induction as generalizing s with
  | nil => rfl
  | cons a as ih =>
    have ha : (runAction a s).2.length = if a.captures = true then 1 else 0 := by
      cases a with
      | jtag tms tdi cap => cases cap <;> rfl
      | swdIn cap => cases cap <;> rfl
      | _ => rfl
    rw [runActions_cons, List.length_append, ih, ha, List.countP_cons, Nat.add_comm]

@[simp] theorem countP_captures_walk (p : List Level) : (walk p).countP Action.captures = 0 :=
  List.countP_eq_zero.mpr (List.forall_mem_map.mpr fun _ _ => Bool.false_ne_true)

@[simp] theorem countP_captures_fillers (n : Nat) (fill : Option Level) :
    (fillers n fill).countP Action.captures = 0 :=
  List.countP_eq_zero.mpr (List.forall_mem_replicate.mpr (.inr Bool.false_ne_true))

/-- Recording payload cycles capture one sample each. -/
@[simp] theorem countP_captures_payloadCycles (bits : List (Option Level)) :
    (payloadCycles bits true).countP Action.captures = bits.length :=
  (List.countP_eq_length.mpr (List.forall_mem_map.mpr fun _ _ => rfl))
    |>.trans (List.length_map _)

@[simp] theorem countP_captures_tail (idle : Nat) (park : Bool) :
    (tail idle park).actions.countP Action.captures = 0 := by
  cases park <;> simp [tail, Action.captures]

/-- A payload that is not empty is captured whole, its last bit in the exit cycle where there is no filler (R178). -/
theorem countP_captures_shiftPayload {payload : List (Option Level)} (hp : 1 ≤ payload.length) (na : Nat)
    (fa : Option Level) :
    (shiftPayload payload true na fa).actions.countP Action.captures = payload.length := by
  unfold shiftPayload
  split
  · simp [Action.captures]
  · simp [Action.captures, Nat.sub_add_cancel hp]

/-- `JTAG_DR` captures its payload (R188). -/
theorem countP_captures_drPhases {bits : List Level} (hbits : 1 ≤ bits.length) (c : ChainPosition) :
    (drPhases bits c).actions.countP Action.captures = bits.length := by
  have hlength : (drivenBits bits).length = bits.length := List.length_map some
  have hpayload := countP_captures_shiftPayload (payload := drivenBits bits) (by rwa [hlength])
  simp [drPhases, shiftBody, hpayload, hlength]

/-- A sequence that captures records every one of its cycles (R146). -/
theorem countP_captures_clockActions {m : Mode} (hm : m ≠ .disabled) {n : Nat} (held : Level)
    {out : Option (List Level)} (hout : ∀ bits, out = some bits → bits.length = n) :
    (clockActions m n held true out).countP Action.captures = n := by
  have hlevels : (driveLevels n out).length = n := by
    cases out with
    | none => simp [driveLevels]
    | some bits => simpa [driveLevels] using hout bits rfl
  cases m with
  | disabled => exact absurd rfl hm
  | jtag =>
    have hall : ∀ a ∈ clockJtagActions n held true out, a.captures = true := List.forall_mem_map.mpr fun _ _ => rfl
    rw [clockActions, List.countP_eq_length.mpr hall]
    simpa [clockJtagActions] using hlevels
  | swd => simp [clockActions, clockSwdActions, List.countP_replicate, Action.captures]

/-! ### Which results an operation has written -/

@[simp] theorem byteCount_zero : byteCount 0 = 0 := rfl

/-- A sequence that starts with no result written has written the bytes of its capture, none where it does not capture
(R146, R154). -/
theorem clockSequence_written {s : State} (hs : s.written = Written.nothing) (hm : s.mode ≠ .disabled) (n : Nat)
    (held : Level) (cap : Bool) {out : Option (List Level)} (hout : ∀ bits, out = some bits → bits.length = n) :
    (clockSequence n held cap out s).written =
      { Written.nothing with rxBytes := byteCount (if cap = true then n else 0) } := by
  by_cases hn : n = 0
  · cases cap <;> simp [clockSequence, hn, hs, Written.nothing]
  · have hcount := countP_captures_clockActions hm held hout
    cases cap <;> simp [clockSequence, hn, hs, recordHeld_eq, runActions_captured_length, hcount, Written.nothing]

@[simp] theorem runPhased_written (p : Phased) (s : State) : (runPhased p s).1.written = s.written :=
  runActions_written _ _

@[simp] theorem tearDown_written (s : State) : (tearDown s).written = s.written := by
  simp [tearDown]

@[simp] theorem portSetup_written (m : Mode) (owner : Owner) (lines : List Action) (s : State) :
    (portSetup m owner lines s).written = { s.written with ok := true } := by
  unfold portSetup claimEngine enterMode
  simp only
  split
  · simp
  · split <;> simp

@[simp] theorem lineSet_written (l : Line) (b : Level) (s : State) : (lineSet l b s).written = s.written := by
  rw [lineSet_eq]

@[simp] theorem lineDir_written (l : Line) (d : Bool) (s : State) : (lineDir l d s).written = s.written := by
  rw [lineDir_eq]

@[simp] theorem pinRead_written (l : Line) (s : State) :
    (pinRead l s).written = { s.written with rbit := true } := by
  simp only [pinRead, lineGet_eq]
  split <;> simp

/-- `JTAG_DR` writes the bytes of its capture (R188). -/
theorem jtagDr_written {s : State} (hcount : 1 ≤ countOperand s) :
    (jtagDr s).written = { s.written with rxBytes := byteCount (countOperand s) } := by
  have hbits : (txBits (countOperand s) s).length = countOperand s := bufferBits_length _ _
  have hlength := countP_captures_drPhases (hbits.symm ▸ hcount) s.operands.cfg.chain
  simp [jtagDr, runPhased, runActions_captured_length, hlength, hbits]

/-- A JTAG transfer writes `ACK`, and `RDATA` where it reads and is not aborted (R195, R196). -/
theorem jtagTransfer_written (request : Byte) (checkAck : Bool) (s : State) :
    (jtagTransfer request checkAck s).written =
      { s.written with
        ack := true
        rdata := s.written.rdata ||
          returnsRdata (.jtagTransfer request checkAck) (jtagTransfer request checkAck s) } := by
  have hreturns (a : BitVec 3) :
      (reqRnW request && (!checkAck || some a == some 1#3)) = (!abortsEarly checkAck a && reqRnW request) := by
    cases checkAck <;> by_cases h : a = 1#3 <;> simp [abortsEarly, jtagAck, h]
  simp only [returnsRdata, jtagTransfer, writeAck_ack, hreturns]
  split
  · next hread => simp [hread]
  · next hread => simp [hread]

theorem swdAck_eq_ok (a : BitVec 3) : swdAck a = .ok ↔ a = 1#3 := by
  revert a; decide

/-- An SWD transfer writes `ACK` and `PERR`, and `RDATA` where it reads and the target answers Ok (R236). -/
theorem swdTransfer_written (request : Byte) (s : State) :
    (swdTransfer request s).written =
      { s.written with
        ack := true
        perr := true
        rdata := s.written.rdata || returnsRdata (.swdTransfer request) (swdTransfer request s) } := by
  have hreturns (a : BitVec 3) (e : Bool) :
      (reqRnW request &&
          (some (if (decide (swdAck a = .ok) && reqRnW request && e) = true then 4#3 else a) == some 1#3 ||
        some (decide (swdAck a = .ok) && reqRnW request && e) == some true)) =
        (decide (swdAck a = .ok) && reqRnW request) := by
    cases reqRnW request <;> cases e <;> by_cases h : a = 1#3 <;> simp [swdAck_eq_ok, h]
  simp only [returnsRdata, swdTransfer, writeAck_ack, writeAck_perr, writePerr_perr, hreturns, writeAck_written,
    writePerr_written]
  split
  · next hread => simp [hread]
  · next hread => simp [hread]

/-- What is told of the results after an operation that was issued and completed. -/
def writtenBy (i : Instr) (o : Operands) (t : State) : Written :=
  { ack := writesAck i
    perr := writesPerr i
    ok := writesOk i
    rdata := returnsRdata i t
    rxBytes := byteCount (capturedBits i o)
    rbit := writesRbit i }

/-- An operation that starts with no result written (R41) has written exactly the results of `writtenBy`. -/
theorem completed_written {i : Instr} {s : State} (hchecks : ∀ c ∈ refusals i s, c = none)
    (hs : s.written = Written.nothing) : (completed i s).written = writtenBy i s.operands (completed i s) := by
  have hmode := performedIn_of_refusals hchecks
  have hbits (n : Nat) : ∀ bits, some (txBits n s) = some bits → bits.length = n := by
    rintro _ ⟨⟩
    exact bufferBits_length _ _
  cases i with
  | clockSequence cap held outPresent =>
    refine clockSequence_written hs (by simpa [performedIn] using hmode) _ held cap ?_
    cases outPresent with
    | true => exact hbits _
    | false => intro _ h; cases h
  | jtagSequence info =>
    exact clockSequence_written hs (by simp [eq_of_beq hmode]) _ (infoTms info) (infoCapture info) (hbits _)
  | swdSequence info =>
    refine clockSequence_written hs (by simp [eq_of_beq hmode]) _ (contModeSelect s) (infoCapture info) ?_
    cases infoCapture info with
    | true => intro _ h; cases h
    | false => exact hbits _
  | jtagDr =>
    have hcount : 1 ≤ countOperand s := by
      have hlegal : s.operands.bitCountLegal s.params = true :=
        (bitCountCheck_none s).mp (hchecks (bitCountCheck s) (by simp [refusals]))
      simp only [Operands.bitCountLegal, Bool.and_eq_true, decide_eq_true_eq] at hlegal
      exact hlegal.1
    simp [completed, jtagDr_written hcount, hs, Written.nothing, writtenBy, writesAck, writesPerr, writesOk,
      writesRbit, returnsRdata, capturedBits, countOperand]
  | jtagTransfer request checkAck =>
    simp [completed, jtagTransfer_written, hs, Written.nothing, writtenBy, writesAck, writesPerr, writesOk, writesRbit,
      capturedBits]
  | swdTransfer request =>
    simp [completed, swdTransfer_written, hs, Written.nothing, writtenBy, writesAck, writesPerr, writesOk, writesRbit,
      capturedBits]
  | _ =>
    simp [completed, jtagReadIdcode, jtagIr, jtagWriteAbort, hs, Written.nothing, writtenBy, writesAck, writesPerr,
      writesOk, writesRbit, returnsRdata, capturedBits]

/-! ### A result that was written holds a value -/

/-- Every result that is told to be written has a value in its register (R41). -/
structure WrittenHoldValues (s : State) : Prop where
  ack : s.written.ack = true → s.ack.isSome = true
  perr : s.written.perr = true → s.perr.isSome = true
  ok : s.written.ok = true → s.ok.isSome = true
  rdata : s.written.rdata = true → s.rdata.isSome = true
  rxbuf : ∀ k, k < s.written.rxBytes → (Mem.read s.rxbuf k).isSome = true
  rbit : s.written.rbit = true → s.rbit.isSome = true

theorem WrittenHoldValues.of_nothing {s : State} (hs : s.written = Written.nothing) : WrittenHoldValues s := by
  constructor <;> simp [hs, Written.nothing]

theorem WrittenHoldValues.of_same {s t : State} (h : WrittenHoldValues s) (ht : SameResults s t) :
    WrittenHoldValues t := by
  constructor
  · rw [ht.ack, ht.written]; exact h.ack
  · rw [ht.perr, ht.written]; exact h.perr
  · rw [ht.ok, ht.written]; exact h.ok
  · rw [ht.rdata, ht.written]; exact h.rdata
  · rw [ht.rxbuf, ht.written]; exact h.rxbuf
  · rw [ht.rbit, ht.written]; exact h.rbit

/-- A capture leaves a value in each byte it is told to have written (R62). -/
theorem WrittenHoldValues.storeCapture {s : State} (h : WrittenHoldValues s) (bits : List Level) :
    WrittenHoldValues (storeCapture bits s) :=
  { h with
    rxbuf := fun k hk => by
      have hk' : k < byteCount bits.length := hk
      rw [storeCapture_read, if_pos hk', packBytes_getElem? bits k hk']
      rfl }

theorem Performs.writtenHoldValues {i : Instr} {s t : State} (h : Performs i s t) (hs : WrittenHoldValues s) :
    WrittenHoldValues t := by
  induction h with
  | start => exact hs
  | action a _ _ ih => exact ih.of_same (runAction_sameResults a _)
  | select m c x slew o _ _ ih => exact ih.of_same ⟨rfl, rfl, rfl, rfl, rfl, rfl, rfl⟩
  | held b _ ih => exact ih.of_same (recordHeld_sameResults b _)
  | sample _ ih => exact ih.of_same ⟨rfl, rfl, rfl, rfl, rfl, rfl, rfl⟩
  | capture bits _ _ ih => exact ih.storeCapture bits
  | ack a _ _ ih => exact { ih with ack := fun _ => rfl }
  | perr e _ _ ih => exact { ih with perr := fun _ => rfl }
  | ok k _ _ ih => exact { ih with ok := fun _ => rfl }
  | rdata v _ _ ih => exact { ih with rdata := fun _ => rfl }
  | rbit b _ _ ih => exact { ih with rbit := fun _ => rfl }

/-! ### The reads of the command processor -/

/-- A result that was not written is a fault of the reader (R45, U22). -/
theorem resultValue_unwritten {α : Type} (r : ResultName) {written : Bool} {register : Option α}
    (hw : written = false) : resultValue r (returned written register) = .error (.resultHasNoValue r) := by
  simp [returned, hw]

/-- A result that was written is the value in its register (R41). -/
theorem resultValue_written {α : Type} (r : ResultName) {written : Bool} {register : Option α}
    (hw : written = true) (hsome : register.isSome = true) :
    ∃ v, register = some v ∧ resultValue r (returned written register) = .ok v := by
  obtain ⟨v, hv⟩ := Option.isSome_iff_exists.mp hsome
  exact ⟨v, hv, by simp [returned, hw, hv, resultValue]⟩

/-- Settles O14: after reset nothing is written; after a step exactly the results of `writtenBy` are, and each of them
holds a value. -/
theorem readingAResultWithoutValueFaults : Obligations.ReadingAResultWithoutValueFaults := by
  constructor
  · intro p k
    exact ⟨rfl, rfl, rfl, rfl, rfl, rfl⟩
  · intro s t c rest i k hprogram hdecode hstep
    have hexec : exec i (takeCommand c rest s) = .next t :=
      (step_of_fetch_operation (fetch_of_decode_ok hprogram hdecode)).symm.trans hstep
    have hvalues : WrittenHoldValues t := (exec_performs hexec).writtenHoldValues (.of_nothing rfl)
    have hwritten : t.written = writtenBy i c.operands t := by
      obtain ⟨hchecks, rfl⟩ := exec_next hexec
      exact completed_written hchecks rfl
    have hack : t.written.ack = writesAck i := congrArg Written.ack hwritten
    have hperr : t.written.perr = writesPerr i := congrArg Written.perr hwritten
    have hok : t.written.ok = writesOk i := congrArg Written.ok hwritten
    have hrdata : t.written.rdata = returnsRdata i t := congrArg Written.rdata hwritten
    have hrx : t.written.rxBytes = (capturedBits i c.operands + 7) / 8 := congrArg Written.rxBytes hwritten
    have hrbit : t.written.rbit = writesRbit i := congrArg Written.rbit hwritten
    refine ⟨fun h => resultValue_unwritten _ (hack.trans h), fun h => resultValue_unwritten _ (hperr.trans h),
      fun h => resultValue_unwritten _ (hok.trans h), fun h => resultValue_unwritten _ (hrdata.trans h),
      fun h => resultValue_unwritten _ (decide_eq_false (by omega)),
      fun h => resultValue_unwritten _ (hrbit.trans h), fun h => ?_, fun h => ?_, fun h => ?_, fun h => ?_,
      fun h => ?_, fun h => ?_⟩
    · exact resultValue_written _ (hack.trans h) (hvalues.ack (hack.trans h))
    · exact resultValue_written _ (hperr.trans h) (hvalues.perr (hperr.trans h))
    · exact resultValue_written _ (hok.trans h) (hvalues.ok (hok.trans h))
    · exact resultValue_written _ (hrdata.trans h) (hvalues.rdata (hrdata.trans h))
    · have hk : k < t.written.rxBytes := by omega
      exact resultValue_written _ (decide_eq_true hk) (hvalues.rxbuf k hk)
    · exact resultValue_written _ (hrbit.trans h) (hvalues.rbit (hrbit.trans h))

end Sys2Proof.Machine
end

section
/-! Every step keeps the state consistent (10_state.md R22, R23, R45, R62; 44_transport_selector.md R269): the
operations that are not mode operations by the changes of `Performs`, the mode operations by the state they end in. -/

namespace Sys2Proof.Machine

/-- The continuation invariant of R22 and R23. -/
structure ContinuationHolds (s : State) : Prop where
  active : s.cont.isSome = true ↔ s.mode ≠ .disabled
  jtag : s.mode = .jtag → HoldsLatches s
  swd : s.mode = .swd → s.oe.swdioTms = true → contDrivenBit s = s.out.swdioTms

/-- A change that leaves the mode, the continuation state, the latches and the directions alone keeps the invariant. -/
theorem ContinuationHolds.of_same {s t : State} (h : ContinuationHolds s) (hmode : t.mode = s.mode)
    (hcont : t.cont = s.cont) (hout : t.out = s.out) (hoe : t.oe = s.oe) : ContinuationHolds t := by
  constructor
  · rw [hcont, hmode]; exact h.active
  · rw [hmode, HoldsLatches, hcont, hout]; exact h.jtag
  · rw [hmode, contDrivenBit_congr hcont, hout, hoe]; exact h.swd

/-- In SWD mode, an action that is permitted leaves the latch of an output line in the continuation state (R23). -/
theorem contDrivenBit_runAction {a : Action} {s : State} (h : ContinuationHolds s) (hm : s.mode = .swd)
    (ha : a.permitted s.mode s.oe.swdioTms = true) (ho : (runAction a s).1.oe.swdioTms = true) :
    contDrivenBit (runAction a s).1 = (runAction a s).1.out.swdioTms := by
  have hc : s.cont.isSome = true := h.active.mpr (by simp [hm])
  cases a with
  | set l b =>
    have ho' : s.oe.swdioTms = true := by simpa [runAction, lineSet_eq] using ho
    rw [contDrivenBit_set hm hc]
    cases l <;> simp [runAction, lineSet_eq, ho', h.swd hm ho']
  | dir l d =>
    obtain rfl : l = .swdioTms := by simpa [Action.permitted] using ha
    obtain rfl : d = true := by simpa [runAction, lineDir_eq] using ho
    rw [contDrivenBit_dir hm hc]
    simp [runAction, lineDir_eq]
  | enable e => cases ha
  | jtag tms tdi cap => simp [Action.permitted, hm] at ha
  | swdOut b =>
    rw [contDrivenBit_swdOut hc]
    simp [runAction, sCycleOut_eq]
  | swdIn cap =>
    have ho' : s.oe.swdioTms = true := by simpa [runAction, sCycleIn_eq] using ho
    have hcap : cap = false := by simpa [Action.permitted, hm, ho'] using ha
    rw [contDrivenBit_swdIn hc, hcap]
    simpa [runAction, sCycleIn_eq] using h.swd hm ho'

theorem ContinuationHolds.runAction {a : Action} {s : State} (h : ContinuationHolds s)
    (ha : a.permitted s.mode s.oe.swdioTms = true) : ContinuationHolds (runAction a s).1 := by
  constructor
  · rw [runAction_mode, ← h.active]
    by_cases hjtag : notTckCycle a = true
    · rw [runAction_cont_isSome hjtag]
    · cases a with
      | jtag tms tdi cap =>
        have hm : s.mode = .jtag := by simpa [Action.permitted] using ha
        simp [Machine.runAction, jCycle_eq, h.active, hm]
      | _ => exact absurd rfl hjtag
  · intro hm
    rw [runAction_mode] at hm
    refine runAction_holdsLatches ?_ hm (h.jtag hm)
    cases a <;> simp_all [Action.permitted, notSwdCycle]
  · intro hm ho
    exact contDrivenBit_runAction h (by simpa using hm) ha ho

/-- The end of a sequence stores the held level in SWD mode only, and leaves the data bit alone (R148). -/
theorem ContinuationHolds.recordHeld {s : State} (h : ContinuationHolds s) (b : Level) :
    ContinuationHolds (recordHeld b s) := by
  rw [recordHeld_eq]
  by_cases hm : s.mode = .swd
  · constructor
    · simpa [hm] using h.active
    · simp [hm]
    · intro _ ho
      rw [← h.swd hm ho]
      cases hc : s.cont <;> simp [contDrivenBit, hm, hc]
  · exact h.of_same rfl (if_neg hm) rfl rfl

theorem Performs.continuationHolds {i : Instr} {s t : State} (h : Performs i s t) (hi : isModeOperation i = false)
    (hs : ContinuationHolds s) : ContinuationHolds t := by
  induction h with
  | start => exact hs
  | action a ha _ ih =>
    rcases ha with hmode | hpermitted
    · simp [hi] at hmode
    · exact ih.runAction hpermitted
  | select m c x slew o hmode => simp [hi] at hmode
  | held b _ ih => exact ih.recordHeld b
  | sample _ ih => exact ih.of_same rfl rfl rfl rfl
  | capture bits _ _ ih => exact ih.of_same rfl rfl rfl rfl
  | ack a _ _ ih => exact ih.of_same rfl rfl rfl rfl
  | perr e _ _ ih => exact ih.of_same rfl rfl rfl rfl
  | ok k _ _ ih => exact ih.of_same rfl rfl rfl rfl
  | rdata v _ _ ih => exact ih.of_same rfl rfl rfl rfl
  | rbit b _ _ ih => exact ih.of_same rfl rfl rfl rfl

/-- Only a mode operation switches the direction of a line other than SWDIO. -/
theorem Performs.directions {i : Instr} {s t : State} (h : Performs i s t) (hi : isModeOperation i = false) :
    t.oe = { s.oe with swdioTms := t.oe.swdioTms } := by
  induction h with
  | start => rfl
  | @action t a ha _ ih =>
    have ha : a.permitted t.mode t.oe.swdioTms = true := by simpa [hi] using ha
    cases a with
    | set l b => simpa [runAction, lineSet_eq] using ih
    | dir l d =>
      obtain rfl : l = .swdioTms := by simpa [Action.permitted] using ha
      rw [show (runAction (.dir .swdioTms d) t).1.oe = t.oe.set .swdioTms d by simp [runAction, lineDir_eq], ih]
      rfl
    | enable e => cases ha
    | jtag tms tdi cap => exact ih
    | swdOut b => exact ih
    | swdIn cap => simpa [runAction, sCycleIn_eq] using ih
  | select m c x slew o hmode => simp [hi] at hmode
  | held b _ ih => simpa [recordHeld_eq] using ih
  | _ => assumption

/-- Every operation keeps the canonical form of `RXBUF`. -/
theorem Performs.rxbuf_wf {i : Instr} {s t : State} (h : Performs i s t) (hs : Mem.wf s.rxbuf = true) :
    Mem.wf t.rxbuf = true := by
  induction h with
  | start => exact hs
  | action a _ _ ih => simpa using ih
  | held b _ ih => simpa [recordHeld_eq] using ih
  | capture bits _ _ ih => exact storeCapture_wf bits _ ih
  | _ => assumption

/-! ### The states the mode operations end in -/

/-- Everything a tear-down does (R261). -/
theorem tearDown_eq (s : State) :
    tearDown s =
      { s with
        mode := .disabled, cont := none, src := .latch, shiftOwner := releasedOwner s.shiftOwner
        oe := Lines.all false, enabled := false, trace := s.trace ++ tearDownEvents } := by
  simp [tearDown, tearDownActions, tearDownEvents, runActions_cons, runAction, lineDir, contUpdateOnDir, emit,
    linesEnable, Lines.set, Lines.all]

/-- The events of the line writes of a JTAG set-up, in order (R263). -/
def jtagSetupEvents : List Event :=
  [.lvl .swclkTck true, .lvl .swdioTms true, .lvl .tdi true, .lvl .nReset true, .dir .swclkTck true,
    .dir .swdioTms true, .dir .tdi true, .dir .tdo false, .dir .nReset true, .en true]

/-- Everything the line writes of a JTAG set-up do (R263). -/
theorem runActions_jtagSetup {s : State} (hm : s.mode = .jtag) (hc : s.cont = some ⟨true, true⟩) :
    (runActions jtagSetupActions s).1 =
      { s with
        out := { s.out with swclkTck := true, swdioTms := true, tdi := true, nReset := true }
        oe := ⟨true, true, true, false, true⟩
        enabled := true
        trace := s.trace ++ jtagSetupEvents } := by
  simp [jtagSetupActions, jtagSetupEvents, runActions_cons, runAction, lineSet, lineDir, contUpdateOnSet,
    contUpdateOnDir, setContDriven, setContModeSelect, emit, linesEnable, Lines.set, hm, hc]

/-- The events of the line writes of an SWD set-up, in order (R264). -/
def swdSetupEvents : List Event :=
  [.lvl .swclkTck true, .lvl .swdioTms true, .lvl .nReset true, .dir .swclkTck true, .dir .swdioTms true,
    .dir .tdi false, .dir .tdo false, .dir .nReset true, .en true]

/-- Everything the line writes of an SWD set-up do (R264). -/
theorem runActions_swdSetup {s : State} (hm : s.mode = .swd) (hc : s.cont = some ⟨true, true⟩) :
    (runActions swdSetupActions s).1 =
      { s with
        out := { s.out with swclkTck := true, swdioTms := true, nReset := true }
        oe := ⟨true, true, false, false, true⟩
        enabled := true
        trace := s.trace ++ swdSetupEvents } := by
  cases ho : s.oe.swdioTms <;>
    simp [swdSetupActions, swdSetupEvents, runActions_cons, runAction, lineSet, lineDir, contUpdateOnSet,
      contUpdateOnDir, setContDriven, emit, linesEnable, Lines.set, hm, hc, ho]

/-- The fields a set-up decides: what a mode keeps true of the directions, the enable, the engine and the slew setting
(R26, R27, R45, R269). -/
structure SetUpHolds (s : State) : Prop where
  enabled : s.enabled = true ↔ s.mode ≠ .disabled
  clock : s.oe.swclkTck = true ↔ s.mode ≠ .disabled
  reset : s.oe.nReset = true ↔ s.mode ≠ .disabled
  tdi : s.oe.tdi = true ↔ s.mode = .jtag
  tdo : s.oe.tdo = false
  software : s.params.backend = .software → s.shiftOwner = .free ∧ s.src = .latch
  hardware : s.params.backend = .hardware →
    (s.shiftOwner = .jtag ↔ s.mode = .jtag) ∧ (s.shiftOwner = .swd ↔ s.mode = .swd) ∧
      (s.src = .shifter ↔ s.mode ≠ .disabled)
  slew : s.slew = s.params.slew

/-- The two parts of the invariant that a mode operation builds anew. -/
def ModeHolds (s : State) : Prop := ContinuationHolds s ∧ SetUpHolds s

/-- Without an active mode no line is driven, and neither protocol owns the engine (R261, R269). -/
theorem modeHolds_of_disabled {s : State} (hm : s.mode = .disabled) (hc : s.cont = none) (hsrc : s.src = .latch)
    (howner : s.params.backend = .software → s.shiftOwner = .free) (hjtag : s.shiftOwner ≠ .jtag)
    (hswd : s.shiftOwner ≠ .swd) (hoe : s.oe = Lines.all false) (he : s.enabled = false)
    (hslew : s.slew = s.params.slew) : ModeHolds s := by
  constructor
  · constructor <;> simp [hm, hc]
  · constructor <;> simp_all [Lines.all]

theorem releasedOwner_ne_jtag (o : Owner) : releasedOwner o ≠ .jtag := by
  cases o <;> simp [releasedOwner]

theorem releasedOwner_ne_swd (o : Owner) : releasedOwner o ≠ .swd := by
  cases o <;> simp [releasedOwner]

theorem tearDown_modeHolds {s : State} (h : SetUpHolds s) : ModeHolds (tearDown s) := by
  rw [tearDown_eq]
  exact modeHolds_of_disabled rfl rfl rfl (fun hb => by simp [(h.software hb).1, releasedOwner])
    (releasedOwner_ne_jtag _) (releasedOwner_ne_swd _) rfl rfl h.slew

/-- A set-up whose engine is taken leaves the mode disabled (R262). -/
theorem portSetup_taken_modeHolds {s : State} (m : Mode) (owner : Owner) (lines : List Action) (h : SetUpHolds s)
    (ht : engineTaken s = true) : ModeHolds (portSetup m owner lines s) := by
  have hb : s.params.backend = .hardware := by
    simp only [engineTaken, Bool.and_eq_true, beq_iff_eq] at ht
    exact ht.1
  rw [portSetup, if_pos ht, tearDown_eq]
  exact modeHolds_of_disabled rfl rfl rfl (by simp [hb]) (by simp) (by simp) rfl rfl h.slew

theorem portSetup_jtag_modeHolds {s : State} (h : SetUpHolds s) :
    ModeHolds (portSetup .jtag .jtag jtagSetupActions s) := by
  by_cases ht : engineTaken s = true
  · exact portSetup_taken_modeHolds _ _ _ h ht
  · rw [portSetup, if_neg ht, runActions_jtagSetup rfl rfl]
    cases hb : s.params.backend with
    | software =>
      have hfree : releasedOwner s.shiftOwner = .free := by simp [(h.software hb).1, releasedOwner]
      constructor <;> constructor <;> simp [enterMode, claimEngine, tearDown_eq, HoldsLatches, hb, hfree]
    | hardware => constructor <;> constructor <;> simp [enterMode, claimEngine, tearDown_eq, HoldsLatches, hb]

theorem portSetup_swd_modeHolds {s : State} (h : SetUpHolds s) :
    ModeHolds (portSetup .swd .swd swdSetupActions s) := by
  by_cases ht : engineTaken s = true
  · exact portSetup_taken_modeHolds _ _ _ h ht
  · rw [portSetup, if_neg ht, runActions_swdSetup rfl rfl]
    cases hb : s.params.backend with
    | software =>
      have hfree : releasedOwner s.shiftOwner = .free := by simp [(h.software hb).1, releasedOwner]
      constructor <;> constructor <;> simp [enterMode, claimEngine, tearDown_eq, contDrivenBit, hb, hfree]
    | hardware => constructor <;> constructor <;> simp [enterMode, claimEngine, tearDown_eq, contDrivenBit, hb]

/-! ### The invariant as a whole -/

theorem Consistent.modeHolds {s : State} (h : Consistent s) : ModeHolds s :=
  ⟨⟨h.cont_active, h.cont_jtag, h.cont_swd⟩,
    ⟨h.enabled_active, h.clock_direction, h.reset_direction, h.tdi_direction, h.tdo_direction, h.software,
      h.hardware, h.slew_setting⟩⟩

/-- The invariant is that of the modes, the form of `RXBUF`, and that written results hold values. -/
theorem consistent_of_parts {s : State} (h : ModeHolds s) (hrx : Mem.wf s.rxbuf = true) (hw : WrittenHoldValues s) :
    Consistent s := by
  obtain ⟨hcont, hsetup⟩ := h
  exact
    { cont_active := hcont.active, cont_jtag := hcont.jtag, cont_swd := hcont.swd
      enabled_active := hsetup.enabled, clock_direction := hsetup.clock, reset_direction := hsetup.reset
      tdi_direction := hsetup.tdi, tdo_direction := hsetup.tdo, software := hsetup.software
      hardware := hsetup.hardware, slew_setting := hsetup.slew, rxbuf_wf := hrx
      written_ack := hw.ack, written_perr := hw.perr, written_ok := hw.ok, written_rdata := hw.rdata
      written_rxbuf := hw.rxbuf, written_rbit := hw.rbit }

/-- An operation that is not a mode operation changes none of the fields a set-up decides. -/
theorem Performs.modeHolds {i : Instr} {s t : State} (h : Performs i s t) (hi : isModeOperation i = false)
    (hs : ModeHolds s) : ModeHolds t := by
  obtain ⟨hcont, hsetup⟩ := hs
  obtain ⟨hmode, hsrc, hslew, howner, henabled⟩ := h.selection hi
  obtain ⟨-, hparams, -⟩ := h.operands
  have hoe := h.directions hi
  refine ⟨h.continuationHolds hi hcont, ?_⟩
  constructor
  · rw [henabled, hmode]; exact hsetup.enabled
  · rw [hoe, hmode]; exact hsetup.clock
  · rw [hoe, hmode]; exact hsetup.reset
  · rw [hoe, hmode]; exact hsetup.tdi
  · rw [hoe]; exact hsetup.tdo
  · rw [hparams, howner, hsrc]; exact hsetup.software
  · rw [hparams, howner, hmode, hsrc]; exact hsetup.hardware
  · rw [hslew, hparams]; exact hsetup.slew

/-- Every operation that completes keeps the part of the invariant that the modes decide. -/
theorem exec_modeHolds {i : Instr} {s t : State} (h : exec i s = .next t) (hs : ModeHolds s) : ModeHolds t := by
  by_cases hi : isModeOperation i = true
  · obtain ⟨-, rfl⟩ := exec_next h
    obtain ⟨-, hsetup⟩ := hs
    cases i with
    | portOff => exact tearDown_modeHolds hsetup
    | portJtagSetup => exact portSetup_jtag_modeHolds hsetup
    | portSwdSetup => exact portSetup_swd_modeHolds hsetup
    | _ => cases hi
  · exact (exec_performs h).modeHolds (by simpa using hi) hs

theorem exec_consistent {i : Instr} {s t : State} (h : exec i s = .next t) (hs : Consistent s) : Consistent t := by
  have hperforms := exec_performs h
  have hvalues : WrittenHoldValues s :=
    ⟨hs.written_ack, hs.written_perr, hs.written_ok, hs.written_rdata, hs.written_rxbuf, hs.written_rbit⟩
  exact consistent_of_parts (exec_modeHolds h hs.modeHolds) (hperforms.rxbuf_wf hs.rxbuf_wf)
    (hperforms.writtenHoldValues hvalues)

/-- Taking a command leaves no result written and changes nothing else the invariant speaks of. -/
theorem takeCommand_consistent {s : State} (h : Consistent s) (c : Command) (rest : List Command) :
    Consistent (takeCommand c rest s) := by
  obtain ⟨hcont, hsetup⟩ := h.modeHolds
  exact consistent_of_parts
    ⟨hcont.of_same rfl rfl rfl rfl, ⟨hsetup.enabled, hsetup.clock, hsetup.reset, hsetup.tdi, hsetup.tdo,
      hsetup.software, hsetup.hardware, hsetup.slew⟩⟩
    h.rxbuf_wf (.of_nothing rfl)

/-- Settles O11: a step without a command changes nothing, a step with one takes it and performs its operation. -/
theorem stepKeepsConsistent : Obligations.StepKeepsConsistent := by
  intro s t hs hstep
  cases hprogram : s.program with
  | nil =>
    obtain rfl : s = t := by simpa [step, fetch, hprogram] using hstep
    exact hs
  | cons c rest =>
    cases hdecode : decode c.word with
    | error e => simp [step, fetch, hprogram, hdecode] at hstep
    | ok i =>
      rw [step_of_fetch_operation (fetch_of_decode_ok hprogram hdecode)] at hstep
      exact exec_consistent hstep (takeCommand_consistent hs c rest)

end Sys2Proof.Machine
end

section
/-! What no operation but a mode operation can tell (10_state.md R26, R27, R35; 41_bit_sequence_engine.md R150, R160,
R163): the multiplexer, the owner, the slew setting, and whatever no operation reads of the parameters and of the
operands. -/

namespace Sys2Proof.Machine

/-- The same block with other parameters, operands, multiplexer, engine owner and slew setting. -/
def reconfigure (p : Params) (o : Operands) (x : Source) (w : Owner) (slew : Nat) (s : State) : State :=
  { s with params := p, operands := o, src := x, shiftOwner := w, slew := slew }

/-- Parameters and operands that the operations read alike: all but the backend, `SLEW` and `DELAY_FALLBACK` of R8, and
all but the trace owner and the clock configuration of R40. -/
structure ReadAlike (p p' : Params) (o o' : Operands) : Prop where
  maxDevices : p'.maxDevices = p.maxDevices
  maxCount : p'.maxCount = p.maxCount
  idcodeFromReset : p'.idcodeFromReset = p.idcodeFromReset
  count : o'.count = o.count
  data : o'.data = o.data
  txbuf : o'.txbuf = o.txbuf
  chain : o'.cfg.chain = o.cfg.chain
  swd : o'.cfg.swd = o.cfg.swd
  idleCycles : o'.cfg.idleCycles = o.cfg.idleCycles
  timestampRequest : o'.cfg.timestampRequest = o.cfg.timestampRequest

section
variable (p : Params) (o : Operands) (x : Source) (w : Owner) (slew : Nat)

/-! ### The primitives read none of the fields -/

@[simp] theorem reconfigure_mode (s : State) : (reconfigure p o x w slew s).mode = s.mode := rfl
@[simp] theorem reconfigure_cont (s : State) : (reconfigure p o x w slew s).cont = s.cont := rfl
@[simp] theorem reconfigure_out (s : State) : (reconfigure p o x w slew s).out = s.out := rfl
@[simp] theorem reconfigure_oe (s : State) : (reconfigure p o x w slew s).oe = s.oe := rfl
@[simp] theorem reconfigure_enabled (s : State) : (reconfigure p o x w slew s).enabled = s.enabled := rfl
@[simp] theorem reconfigure_params (s : State) : (reconfigure p o x w slew s).params = p := rfl
@[simp] theorem reconfigure_operands (s : State) : (reconfigure p o x w slew s).operands = o := rfl
@[simp] theorem reconfigure_contModeSelect (s : State) :
    contModeSelect (reconfigure p o x w slew s) = contModeSelect s := rfl

theorem contUpdateOnSet_reconfigure (l : Line) (b : Level) (s : State) :
    (contUpdateOnSet l b (reconfigure p o x w slew s)).cont = (contUpdateOnSet l b s).cont := by
  cases hm : s.mode <;> cases l <;> cases ho : s.oe.swdioTms <;> simp [contUpdateOnSet, hm, ho]

@[simp] theorem lineSet_reconfigure (l : Line) (b : Level) (s : State) :
    lineSet l b (reconfigure p o x w slew s) = reconfigure p o x w slew (lineSet l b s) := by
  rw [lineSet_eq, contUpdateOnSet_reconfigure, lineSet_eq]
  rfl

theorem contUpdateOnDir_reconfigure (l : Line) (d : Bool) (s : State) :
    (contUpdateOnDir l d (reconfigure p o x w slew s)).cont = (contUpdateOnDir l d s).cont := by
  cases hm : s.mode <;> cases l <;> cases d <;> simp [contUpdateOnDir, hm]

@[simp] theorem lineDir_reconfigure (l : Line) (d : Bool) (s : State) :
    lineDir l d (reconfigure p o x w slew s) = reconfigure p o x w slew (lineDir l d s) := by
  rw [lineDir_eq, contUpdateOnDir_reconfigure, lineDir_eq]
  rfl

theorem runAction_reconfigure (a : Action) (s : State) :
    runAction a (reconfigure p o x w slew s) = (reconfigure p o x w slew (runAction a s).1, (runAction a s).2) := by
  cases a with
  | set l b => simp [runAction]
  | dir l d => simp [runAction]
  | swdIn cap => cases cap <;> rfl
  | _ => rfl

@[simp] theorem runActions_reconfigure (as : List Action) (s : State) :
    runActions as (reconfigure p o x w slew s) =
      (reconfigure p o x w slew (runActions as s).1, (runActions as s).2) := by
  induction as generalizing s with
  | nil => rfl
  | cons a as ih => simp [runActions_cons, runAction_reconfigure, ih]

@[simp] theorem runPhased_reconfigure (ph : Phased) (s : State) :
    runPhased ph (reconfigure p o x w slew s) =
      (reconfigure p o x w slew (runPhased ph s).1, (runPhased ph s).2) :=
  runActions_reconfigure p o x w slew _ s

@[simp] theorem storeCapture_reconfigure (bits : List Level) (s : State) :
    storeCapture bits (reconfigure p o x w slew s) = reconfigure p o x w slew (storeCapture bits s) := rfl

@[simp] theorem writeRdata_reconfigure (v : Word) (s : State) :
    writeRdata v (reconfigure p o x w slew s) = reconfigure p o x w slew (writeRdata v s) := rfl

@[simp] theorem writeAck_reconfigure (a : BitVec 3) (s : State) :
    writeAck a (reconfigure p o x w slew s) = reconfigure p o x w slew (writeAck a s) := rfl

@[simp] theorem writePerr_reconfigure (e : Bool) (s : State) :
    writePerr e (reconfigure p o x w slew s) = reconfigure p o x w slew (writePerr e s) := rfl

@[simp] theorem recordHeld_reconfigure (b : Level) (s : State) :
    recordHeld b (reconfigure p o x w slew s) = reconfigure p o x w slew (recordHeld b s) := by
  rw [recordHeld_eq, recordHeld_eq]
  rfl

@[simp] theorem clockSequence_reconfigure (n : Nat) (held : Level) (cap : Bool) (out : Option (List Level))
    (s : State) :
    clockSequence n held cap out (reconfigure p o x w slew s) =
      reconfigure p o x w slew (clockSequence n held cap out s) := by
  unfold clockSequence
  split
  · rfl
  · cases cap <;> simp

@[simp] theorem pinRead_reconfigure (l : Line) (s : State) :
    pinRead l (reconfigure p o x w slew s) = reconfigure p o x w slew (pinRead l s) := by
  cases hdriven : s.enabled && s.oe.get l <;>
    simp only [pinRead, lineGet_eq, reconfigure_enabled, reconfigure_oe, hdriven, if_true, Bool.false_eq_true,
      if_false] <;>
    rfl

/-! ### The operations read what `ReadAlike` keeps -/

variable {p o} {s : State} (h : ReadAlike s.params p s.operands o)
include h

theorem ReadAlike.countOperand : countOperand (reconfigure p o x w slew s) = countOperand s :=
  congrArg BitVec.toNat h.count

theorem ReadAlike.txBits (n : Nat) : txBits n (reconfigure p o x w slew s) = txBits n s :=
  congrArg (bufferBits · n) h.txbuf

theorem ReadAlike.irLength : irLength (reconfigure p o x w slew s) = irLength s :=
  congrArg (fun c => (targetIrLength c).getD 0) h.chain

theorem ReadAlike.idleCount : idleCount (reconfigure p o x w slew s) = idleCount s :=
  congrArg BitVec.toNat h.idleCycles

theorem ReadAlike.turnCycles : turnCycles (reconfigure p o x w slew s) = turnCycles s :=
  congrArg (fun c : SwdConfig => Turnaround.cycles c.turnaroundCycles) h.swd

theorem jtagTransfer_reconfigure (request : Byte) (checkAck : Bool) :
    jtagTransfer request checkAck (reconfigure p o x w slew s) =
      reconfigure p o x w slew (jtagTransfer request checkAck s) := by
  simp only [jtagTransfer, reconfigure_operands, h.chain, h.data, h.idleCount, runPhased_reconfigure,
    writeRdata_reconfigure, ← apply_ite (reconfigure p o x w slew), writeAck_reconfigure]

theorem swdTransfer_reconfigure (request : Byte) :
    swdTransfer request (reconfigure p o x w slew s) = reconfigure p o x w slew (swdTransfer request s) := by
  simp only [swdTransfer, reconfigure_operands, h.turnCycles, h.swd, h.data, h.idleCount, runPhased_reconfigure,
    writeRdata_reconfigure, ← apply_ite (reconfigure p o x w slew), writePerr_reconfigure, writeAck_reconfigure]

/-- The reconfigured block ends an operation in the reconfigured state. -/
theorem completed_reconfigure {i : Instr} (hi : isModeOperation i = false) :
    completed i (reconfigure p o x w slew s) = reconfigure p o x w slew (completed i s) := by
  cases i with
  | portOff => cases hi
  | portJtagSetup => cases hi
  | portSwdSetup => cases hi
  | clockSequence cap held outPresent => simp [completed, h.countOperand, h.txBits]
  | jtagSequence info => simp [completed, h.txBits]
  | swdSequence info => simp [completed, h.txBits]
  | swjSequence => simp [completed, h.countOperand, h.txBits]
  | jtagReadIdcode => simp [completed, jtagReadIdcode, h.idcodeFromReset, h.chain]
  | jtagIr => simp [completed, jtagIr, h.data, h.irLength, h.chain]
  | jtagDr => simp [completed, jtagDr, h.countOperand, h.txBits, h.chain]
  | jtagTransfer request checkAck => exact jtagTransfer_reconfigure x w slew h request checkAck
  | jtagWriteAbort => simp [completed, jtagWriteAbort, h.data, h.idleCount, h.chain]
  | swdTransfer request => exact swdTransfer_reconfigure x w slew h request
  | _ => simp [completed]

/-- The reconfigured block refuses what the block refuses. -/
theorem refusals_reconfigure (i : Instr) : refusals i (reconfigure p o x w slew s) = refusals i s := by
  have hjtag : needsJtag (reconfigure p o x w slew s) = needsJtag s := rfl
  have hswd : needsSwd (reconfigure p o x w slew s) = needsSwd s := rfl
  have hactive : needsActiveMode (reconfigure p o x w slew s) = needsActiveMode s := rfl
  have hcount : countCheck (reconfigure p o x w slew s) = countCheck s := by
    simp [countCheck, h.countOperand, h.maxCount]
  have hbits : bitCountCheck (reconfigure p o x w slew s) = bitCountCheck s := by
    simp [bitCountCheck, h.countOperand, h.maxCount]
  have hbuffer (n : Nat) : bufferCheck n (reconfigure p o x w slew s) = bufferCheck n s := by
    simp [bufferCheck, h.txbuf]
  have hchain : chainCheck (reconfigure p o x w slew s) = chainCheck s := by
    simp [chainCheck, h.chain, h.maxDevices]
  have hir : irLengthCheck (reconfigure p o x w slew s) = irLengthCheck s := by
    simp [irLengthCheck, h.chain]
  have htimestamp : timestampCheck (reconfigure p o x w slew s) = timestampCheck s := by
    simp [timestampCheck, h.timestampRequest]
  cases i <;>
    simp only [refusals, hjtag, hswd, hactive, hcount, hbits, hbuffer, hchain, hir, htimestamp, h.countOperand]

theorem clocksCycles_reconfigure (i : Instr) : clocksCycles i (reconfigure p o x w slew s) = clocksCycles i s := by
  cases i <;> simp [clocksCycles, h.countOperand]

end

/-! ### The outcome of a reconfigured block -/

theorem onNext_unlessRefused (f : State → State) (checks : List (Option Refusal))
    (run : Host.Outcome State Fault Refusal) :
    onNext f (unlessRefused checks run) = unlessRefused checks (onNext f run) := by
  unfold unlessRefused
  split <;> rfl

theorem onNext_unlessStuck (f : State → State) (s : State) (run : Host.Outcome State Fault Refusal) :
    onNext f (unlessStuck s run) = unlessStuck s (onNext f run) := by
  unfold unlessStuck
  split <;> rfl

/-- With the engine as ready as before, the outcome of the reconfigured block is the reconfigured outcome. -/
theorem exec_reconfigure {p : Params} {o : Operands} (x : Source) (w : Owner) (slew : Nat) {s : State} {i : Instr}
    (h : ReadAlike s.params p s.operands o) (hi : isModeOperation i = false)
    (hstuck : engineStuck (reconfigure p o x w slew s) = engineStuck s) :
    exec i (reconfigure p o x w slew s) = onNext (reconfigure p o x w slew) (exec i s) := by
  have hwait (run : Host.Outcome State Fault Refusal) :
      unlessStuck (reconfigure p o x w slew s) run = unlessStuck s run := by
    rw [unlessStuck, hstuck, unlessStuck]
  rw [exec_eq, exec_eq, onNext_unlessRefused, refusals_reconfigure x w slew h, clocksCycles_reconfigure x w slew h,
    completed_reconfigure x w slew h hi]
  congr 1
  split
  · rw [hwait, onNext_unlessStuck]; rfl
  · rfl

/-- Two changes of a state that agree on every state an operation can end in give the same outcome. -/
theorem onNext_congr {f g : State → State} {out : Host.Outcome State Fault Refusal}
    (h : ∀ t, out = .next t → f t = g t) : onNext f out = onNext g out := by
  cases out with
  | next t => exact congrArg _ (h t rfl)
  | fault r => rfl
  | refused r => rfl

/-- Settles O18: a refit is a reconfiguration of the block, and an engine that answers is stuck with no backend. -/
theorem backendIsInvisible : Obligations.BackendIsInvisible := by
  intro i s b x w hi hready
  have hs : refit b x w s = reconfigure { s.params with backend := b } s.operands x w s.slew s := rfl
  have hread : ReadAlike s.params { s.params with backend := b } s.operands s.operands :=
    ⟨rfl, rfl, rfl, rfl, rfl, rfl, rfl, rfl, rfl, rfl⟩
  have hstuck : engineStuck (refit b x w s) = engineStuck s := by
    simp [engineStuck, refit, hready]
  rw [hs, exec_reconfigure x w s.slew hread hi hstuck]
  refine onNext_congr fun t ht => ?_
  obtain ⟨ho, hp, -⟩ := (exec_performs ht).operands
  obtain ⟨-, -, hslew, -, -⟩ := (exec_performs ht).selection hi
  rw [← ho, ← hp, ← hslew]
  rfl

/-- Settles O19: so is a change of the clock configuration, the slew setting and the delay fallback. -/
theorem timingIsInvisible : Obligations.TimingIsInvisible := by
  intro i s c slew fallback hi
  have hs : retime c slew fallback s =
      reconfigure { s.params with delayFallback := fallback }
        { s.operands with cfg := { s.operands.cfg with clock := c } } s.src s.shiftOwner slew s := rfl
  have hread : ReadAlike s.params { s.params with delayFallback := fallback } s.operands
      { s.operands with cfg := { s.operands.cfg with clock := c } } :=
    ⟨rfl, rfl, rfl, rfl, rfl, rfl, rfl, rfl, rfl, rfl⟩
  rw [hs, exec_reconfigure s.src s.shiftOwner slew hread hi rfl]
  refine onNext_congr fun t ht => ?_
  obtain ⟨ho, hp, -⟩ := (exec_performs ht).operands
  obtain ⟨-, hsrc, -, howner, -⟩ := (exec_performs ht).selection hi
  rw [← ho, ← hp, ← hsrc, ← howner]
  rfl

end Sys2Proof.Machine
end

section
/-! The bit order of the buffers (20_memory.md R60 to R66): the byte reversal, the capture in `RXBUF`, and the boundary
to a backend that moves each byte most significant bit first. -/

namespace Sys2Proof.Machine

/-! ### The byte reversal -/

/-- The reversal is its own inverse (R66), since `7 - (7 - i) = i`. -/
@[simp] theorem reverse8_reverse8 (b : Byte) : reverse8 (reverse8 b) = b := by
  refine BitVec.eq_of_getLsbD_eq fun i hi => ?_
  rw [reverse8_getLsbD _ _ hi, reverse8_getLsbD _ _ (by omega), show 7 - (7 - i) = i by omega]

/-- The buffer form reverses each byte where it stands (R66). -/
theorem reverseBuffer_getElem? (buf : List Byte) (k : Nat) : (reverseBuffer buf)[k]? = buf[k]?.map reverse8 :=
  List.getElem?_map

/-- Settles O37: the bits and the inverse are those of `reverse8`; the four examples are evaluated. -/
theorem reverseIsAnInvolution : Obligations.ReverseIsAnInvolution :=
  ⟨reverse8_getLsbD, reverse8_reverse8, reverseBuffer_getElem?, by decide, by decide, by decide, by decide⟩

/-! ### The capture in `RXBUF` -/

/-- Bit `j` of byte `k` of a packed capture is sample `8k + j`, 0 where there is none (R61, R62). -/
theorem packedByte_getLsbD (bits : List Level) (k j : Nat) (hj : j < 8) :
    (wordOfBits 8 ((bits.drop (8 * k)).take 8)).getLsbD j = bits.getD (8 * k + j) false := by
  rw [wordOfBits_getLsbD]
  simp [hj]

/-- Every bit of the bytes a capture fills reads back as its sample, 0 where there is none (R61, R62). -/
theorem storeCapture_readBit (bits : List Level) (s : State) {i : Nat} (hi : i / 8 < byteCount bits.length) :
    Mem.readBit (storeCapture bits s).rxbuf i = some (bits.getD i false) := by
  have hbyte : Mem.read (storeCapture bits s).rxbuf (i / 8) =
      some (wordOfBits 8 ((bits.drop (8 * (i / 8))).take 8)) := by
    rw [storeCapture_read, if_pos hi, packBytes_getElem? bits _ hi]
  simp only [Mem.readBit, hbyte, packedByte_getLsbD bits _ _ (Nat.mod_lt i (by decide)), Nat.div_add_mod]

/-- Settles O35: the filled bytes hold the samples and then zeros, and no byte after them is written. -/
theorem captureFillsTheBuffer : Obligations.CaptureFillsTheBuffer := by
  intro samples s i
  refine ⟨fun hsample => ?_, fun hunused hfilled => ?_, fun hafter => ?_⟩
  · have hfilled : i / 8 < byteCount samples.length := by unfold byteCount; omega
    rw [storeCapture_readBit samples s hfilled, List.getD_eq_getElem _ _ hsample]
  · rw [storeCapture_readBit samples s hfilled, List.getD_eq_default _ _ hunused]
  · have hunfilled : ¬ i < byteCount samples.length := Nat.not_lt.mpr hafter
    rw [storeCapture_read, if_neg hunfilled]

/-! ### The backend boundary -/

/-- A reversed buffer holds the reversed bytes; past its end both read as 0, which is its own reversal. -/
theorem reverseBuffer_getD (buf : List Byte) (k : Nat) :
    (reverseBuffer buf).getD k 0 = reverse8 (buf.getD k 0) := by
  have hzero : reverse8 0 = 0 := by decide
  rw [List.getD_eq_getElem?_getD, List.getD_eq_getElem?_getD, reverseBuffer_getElem?]
  cases buf[k]? with
  | none => exact hzero.symm
  | some b => rfl

/-- A backend that drives a reversed buffer's bytes most significant bit first drives the bits of R60 (R65). -/
theorem backendDrives_reverseBuffer (buf : List Byte) (n : Nat) :
    backendDrives (reverseBuffer buf) n = bufferBits buf n := by
  refine List.map_congr_left fun i _ => ?_
  rw [reverseBuffer_getD, reverse8_getLsbD _ _ (by omega), show 7 - (7 - i % 8) = i % 8 by omega, bitRead]

/-- A byte whose bit `7 - j` is sample `8k + j`, reversed, is byte `k` of the packed capture (R61, R65). -/
theorem reverse8_returnedByte (samples : List Level) (k : Nat) :
    reverse8 (wordOfBits 8 ((List.range 8).map fun j => samples.getD (8 * k + (7 - j)) false)) =
      wordOfBits 8 ((samples.drop (8 * k)).take 8) := by
  refine BitVec.eq_of_getLsbD_eq fun j hj => ?_
  have hback : 7 - (7 - j) = j := by omega
  rw [reverse8_getLsbD _ _ hj, packedByte_getLsbD samples k j hj, wordOfBits_getLsbD]
  simp [hback, show 7 - j < 8 by omega]

/-- The bytes such a backend returns, reversed, are the packed capture (R65). -/
theorem reverseBuffer_backendReturns (samples : List Level) :
    reverseBuffer (backendReturns samples) = packBytes samples := by
  rw [reverseBuffer, backendReturns, List.map_map]
  exact List.map_congr_left fun k _ => reverse8_returnedByte samples k

/-- Settles O36: what is driven and what is captured; a buffer that is too short reads as 0 on both sides, so the length
is not needed. -/
theorem byteReversalCancels : Obligations.ByteReversalCancels :=
  ⟨fun buf n _ => backendDrives_reverseBuffer buf n, reverseBuffer_backendReturns⟩

end Sys2Proof.Machine
end

section
/-! The fields of the command word (30_encoding.md R94, R96): a packed word has the fields it was packed from, a word
without reserved bits is packed from its fields, and the flag and argument bytes are made of their named bits. -/

namespace Sys2Proof

@[simp] theorem opField_packWord (op a f : Byte) : opField (packWord op a f) = op :=
  BitVec.extractLsb'_append_eq_right (a := 0#8 ++ f ++ a)

@[simp] theorem argField_packWord (op a f : Byte) : argField (packWord op a f) = a :=
  calc argField (packWord op a f)
    _ = (0#8 ++ f ++ a).extractLsb' 0 8 := BitVec.extractLsb'_append_eq_of_le (by decide)
    _ = a := BitVec.extractLsb'_append_eq_right

@[simp] theorem flagField_packWord (op a f : Byte) : flagField (packWord op a f) = f :=
  calc flagField (packWord op a f)
    _ = (0#8 ++ f ++ a).extractLsb' 8 8 := BitVec.extractLsb'_append_eq_of_le (by decide)
    _ = (0#8 ++ f).extractLsb' 0 8 := BitVec.extractLsb'_append_eq_of_le (by decide)
    _ = f := BitVec.extractLsb'_append_eq_right

@[simp] theorem reservedField_packWord (op a f : Byte) : reservedField (packWord op a f) = 0 :=
  calc reservedField (packWord op a f)
    _ = (0#8 ++ f ++ a).extractLsb' 16 8 := BitVec.extractLsb'_append_eq_of_le (by decide)
    _ = (0#8 ++ f).extractLsb' 8 8 := BitVec.extractLsb'_append_eq_of_le (by decide)
    _ = 0 := BitVec.extractLsb'_append_eq_left

/-- A word without reserved bits is packed from its other three fields (R94). -/
theorem packWord_fields {w : Word} (h : reservedField w = 0) :
    packWord (opField w) (argField w) (flagField w) = w := by
  have hpack : packWord (opField w) (argField w) (flagField w) =
      reservedField w ++ flagField w ++ argField w ++ opField w := by rw [h]; rfl
  rw [hpack, reservedField, flagField, argField, opField,
    BitVec.extractLsb'_append_extractLsb'_eq_extractLsb' (start₂ := 24) rfl,
    BitVec.extractLsb'_append_extractLsb'_eq_extractLsb' (start₂ := 16) rfl,
    BitVec.extractLsb'_append_extractLsb'_eq_extractLsb' (start₂ := 8) rfl]
  exact BitVec.extractLsb'_eq_self

/-- The decoder reads a packed word by its fields. -/
theorem decode_packWord (op a f : Byte) : decode (packWord op a f) = decodeFields op a f := by
  simp [decode]

/-- The argument byte of a level-taking accessor is its level and its ignored bits (R99). -/
theorem levelArg_bits (a : Byte) : levelArg (a.getLsbD 0) (a.extractLsb' 1 7) = a := by
  revert a; decide

theorem levelArg_level (level : Bool) (ignored : BitVec 7) : (levelArg level ignored).getLsbD 0 = level := by
  revert level ignored; decide

theorem levelArg_ignored (level : Bool) (ignored : BitVec 7) : (levelArg level ignored).extractLsb' 1 7 = ignored := by
  revert level ignored; decide

/-- The flag byte of `CLOCK_SEQUENCE` is its three flags where R96 names no other bit. -/
theorem clockSequenceFlags_bits {f : Byte} (h : f.extractLsb' 3 5 = 0) :
    clockSequenceFlags (f.getLsbD 0) (f.getLsbD 1) (f.getLsbD 2) = f := by
  revert f; decide

/-- The flag byte of `JTAG_TRANSFER` is its one flag where R96 names no other bit. -/
theorem jtagTransferFlags_bit {f : Byte} (hlow : f.extractLsb' 0 3 = 0) (hhigh : f.extractLsb' 4 4 = 0) :
    jtagTransferFlags (f.getLsbD 3) = f := by
  revert f; decide

end Sys2Proof
end

section
/-! The encoder and the decoder are the two directions of one correspondence, `decode_eq_ok_iff` (30_encoding.md R94 to
R96, R99): the round trip by the operations, the other direction by the codes the decoder tries. -/

namespace Sys2Proof

/-! ### Decoding an encoded word -/

theorem clockSequenceWord_flags (cap held outPresent : Bool) :
    clockSequenceWord 0 (clockSequenceFlags cap held outPresent) = .ok (.clockSequence cap held outPresent) := by
  revert cap held outPresent; decide

theorem jtagTransferWord_flags (request : Byte) (checkAck : Bool) :
    jtagTransferWord request (jtagTransferFlags checkAck) = .ok (.jtagTransfer request checkAck) := by
  cases checkAck <;> rfl

/-- A level-taking accessor keeps its level and its ignored bits (R99). -/
theorem argumentWord_levelArg (j : Bool → BitVec 7 → Instr) (level : Bool) (ignored : BitVec 7) :
    argumentWord 0 (j ((levelArg level ignored).getLsbD 0) ((levelArg level ignored).extractLsb' 1 7)) =
      .ok (j level ignored) := by
  rw [levelArg_level, levelArg_ignored]; rfl

/-- The decoder reads the fields an operation is packed from. Where the argument byte is one operand, or where there is
none, the code alone selects the operation. -/
theorem decode_encode (i : Instr) : decode (encode i) = .ok i := by
  cases i with
  | clockSequence cap held outPresent => exact (decode_packWord ..).trans (clockSequenceWord_flags cap held outPresent)
  | jtagTransfer request checkAck => exact (decode_packWord ..).trans (jtagTransferWord_flags request checkAck)
  | pinSwdioOut level ignored => exact (decode_packWord ..).trans (argumentWord_levelArg .pinSwdioOut level ignored)
  | pinTdiOut level ignored => exact (decode_packWord ..).trans (argumentWord_levelArg .pinTdiOut level ignored)
  | pinNResetOut level ignored => exact (decode_packWord ..).trans (argumentWord_levelArg .pinNResetOut level ignored)
  | _ => exact decode_packWord ..

/-- Settles O1: `decode_encode`, whose cases are the operations. -/
theorem decodeOfEncodeIsTheOperation : Obligations.DecodeOfEncodeIsTheOperation :=
  decode_encode

/-! ### Encoding what was decoded -/

theorem plainWord_eq_ok {a f : Byte} {i j : Instr} : plainWord a f j = .ok i ↔ a = 0 ∧ f = 0 ∧ j = i := by
  unfold plainWord
  split_ifs <;> simp_all

theorem argumentWord_eq_ok {f : Byte} {i j : Instr} : argumentWord f j = .ok i ↔ f = 0 ∧ j = i := by
  unfold argumentWord
  split_ifs <;> simp_all

theorem clockSequenceWord_eq_ok {a f : Byte} {i : Instr} :
    clockSequenceWord a f = .ok i ↔
      a = 0 ∧ f.extractLsb' 3 5 = 0 ∧ .clockSequence (f.getLsbD 0) (f.getLsbD 1) (f.getLsbD 2) = i := by
  unfold clockSequenceWord
  split_ifs <;> simp_all

theorem jtagTransferWord_eq_ok {a f : Byte} {i : Instr} :
    jtagTransferWord a f = .ok i ↔
      f.extractLsb' 0 3 = 0 ∧ f.extractLsb' 4 4 = 0 ∧ .jtagTransfer a (f.getLsbD 3) = i := by
  unfold jtagTransferWord
  split_ifs <;> simp_all

theorem encode_clockSequence_bits {f : Byte} (h : f.extractLsb' 3 5 = 0) :
    encode (.clockSequence (f.getLsbD 0) (f.getLsbD 1) (f.getLsbD 2)) = packWord 0x10#8 0#8 f := by
  rw [encode, clockSequenceFlags_bits h]

theorem encode_jtagTransfer_bit {f : Byte} (a : Byte) (hlow : f.extractLsb' 0 3 = 0) (hhigh : f.extractLsb' 4 4 = 0) :
    encode (.jtagTransfer a (f.getLsbD 3)) = packWord 0x23#8 a f := by
  rw [encode, jtagTransferFlags_bit hlow hhigh]

/-- What a branch of the decoder reads from the fields `op`, `a`, `f` is the operation whose word they pack. -/
def ReadsFields (op a f : Byte) (r : Except EncodingProblem Instr) : Prop :=
  ∀ i, r = .ok i → encode i = packWord op a f

namespace ReadsFields

theorem plain {op a f : Byte} {j : Instr} (hj : encode j = packWord op 0 0) : ReadsFields op a f (plainWord a f j) := by
  intro i h
  obtain ⟨rfl, rfl, rfl⟩ := plainWord_eq_ok.mp h
  exact hj

theorem argument {op a f : Byte} {j : Instr} (hj : encode j = packWord op a 0) :
    ReadsFields op a f (argumentWord f j) := by
  intro i h
  obtain ⟨rfl, rfl⟩ := argumentWord_eq_ok.mp h
  exact hj

theorem level {op a f : Byte} {j : Bool → BitVec 7 → Instr}
    (hj : ∀ level ignored, encode (j level ignored) = packWord op (levelArg level ignored) 0) :
    ReadsFields op a f (argumentWord f (j (a.getLsbD 0) (a.extractLsb' 1 7))) :=
  argument (by rw [hj, levelArg_bits])

theorem clockSequence {a f : Byte} : ReadsFields 0x10#8 a f (clockSequenceWord a f) := by
  intro i h
  obtain ⟨rfl, hflags, rfl⟩ := clockSequenceWord_eq_ok.mp h
  exact encode_clockSequence_bits hflags

theorem jtagTransfer {a f : Byte} : ReadsFields 0x23#8 a f (jtagTransferWord a f) := by
  intro i h
  obtain ⟨hlow, hhigh, rfl⟩ := jtagTransferWord_eq_ok.mp h
  exact encode_jtagTransfer_bit a hlow hhigh

/-- The decoder tries the code `c`, then the codes of `r'`. -/
theorem code {c op a f : Byte} {r r' : Except EncodingProblem Instr} (h : ReadsFields c a f r)
    (h' : ReadsFields op a f r') : ReadsFields op a f (if op = c then r else r') := by
  split
  · subst op; exact h
  · exact h'

end ReadsFields

/-- The decoder's codes in its order, and the reserved codes at the end. -/
theorem decodeFields_reads (op a f : Byte) : ReadsFields op a f (decodeFields op a f) :=
  .code (.plain rfl) <| .code (.plain rfl) <| .code (.plain rfl) <|
  .code .clockSequence <| .code (.argument rfl) <| .code (.argument rfl) <| .code (.plain rfl) <|
  .code (.plain rfl) <| .code (.plain rfl) <| .code (.plain rfl) <| .code .jtagTransfer <| .code (.plain rfl) <|
  .code (.argument rfl) <|
  .code (.plain rfl) <| .code (.plain rfl) <| .code (.level fun _ _ => rfl) <| .code (.plain rfl) <|
  .code (.plain rfl) <| .code (.level fun _ _ => rfl) <| .code (.plain rfl) <| .code (.level fun _ _ => rfl) <|
  .code (.plain rfl) <| .code (.plain rfl) <| .code (.plain rfl) <| .code (.plain rfl) <| .code (.plain rfl) <|
  .code (.plain rfl) nofun

theorem encode_of_decode {w : Word} {i : Instr} (h : decode w = .ok i) : encode i = w := by
  unfold decode at h
  split_ifs at h with hreserved
  exact (decodeFields_reads _ _ _ i h).trans (packWord_fields (not_not.mp hreserved))

/-- Settles O2: the accepted word has no reserved bit, and each code's branch reads all of its fields. -/
theorem encodeOfDecodeIsTheWord : Obligations.EncodeOfDecodeIsTheWord :=
  fun _ _ => encode_of_decode

/-- The decoder reads an operation from its encoded word and from no other. -/
theorem decode_eq_ok_iff {w : Word} {i : Instr} : decode w = .ok i ↔ encode i = w :=
  ⟨encode_of_decode, fun h => h ▸ decode_encode i⟩

/-- Settles O4: the accepted words are the encoded words of their operations, the others are evaluated. -/
theorem writtenWordsDecode : Obligations.WrittenWordsDecode := by
  have reads (w : Word) (i : Instr) (h : encode i = w) : decode w = .ok i := decode_eq_ok_iff.mpr h
  exact ⟨reads _ _ rfl, reads _ _ rfl, reads _ _ rfl, reads _ _ rfl, reads _ _ rfl, reads _ _ rfl, reads _ _ rfl,
    rfl, rfl, rfl, rfl⟩

end Sys2Proof
end

section
/-! The rows of spec/opcode_table.json (30_encoding.md R95, R99): the encoded words are exactly the words that have the
fixed bits of a row. -/

namespace Sys2Proof

/-- The encoded word of an operation lies in the operation's own row, which is one of the table's. -/
theorem encode_in_table (i : Instr) : Laws.TableRow.Statement i := by
  cases i with
  | portOff => exact Laws.TableRow.portOff
  | portJtagSetup => exact Laws.TableRow.portJtagSetup
  | portSwdSetup => exact Laws.TableRow.portSwdSetup
  | clockSequence cap held outPresent => exact Laws.TableRow.clockSequence cap held outPresent
  | jtagSequence info => exact Laws.TableRow.jtagSequence info
  | swdSequence info => exact Laws.TableRow.swdSequence info
  | swjSequence => exact Laws.TableRow.swjSequence
  | jtagReadIdcode => exact Laws.TableRow.jtagReadIdcode
  | jtagIr => exact Laws.TableRow.jtagIr
  | jtagDr => exact Laws.TableRow.jtagDr
  | jtagTransfer request checkAck => exact Laws.TableRow.jtagTransfer request checkAck
  | jtagWriteAbort => exact Laws.TableRow.jtagWriteAbort
  | swdTransfer request => exact Laws.TableRow.swdTransfer request
  | pinSwclkTckSet => exact Laws.TableRow.pinSwclkTckSet
  | pinSwclkTckClr => exact Laws.TableRow.pinSwclkTckClr
  | pinSwdioOut level ignored => exact Laws.TableRow.pinSwdioOut level ignored
  | pinSwdioOutEnable => exact Laws.TableRow.pinSwdioOutEnable
  | pinSwdioOutDisable => exact Laws.TableRow.pinSwdioOutDisable
  | pinTdiOut level ignored => exact Laws.TableRow.pinTdiOut level ignored
  | pinTdoIn => exact Laws.TableRow.pinTdoIn
  | pinNResetOut level ignored => exact Laws.TableRow.pinNResetOut level ignored
  | pinSwdioTmsSet => exact Laws.TableRow.pinSwdioTmsSet
  | pinSwdioTmsClr => exact Laws.TableRow.pinSwdioTmsClr
  | pinSwdioIn => exact Laws.TableRow.pinSwdioIn
  | pinSwclkTckIn => exact Laws.TableRow.pinSwclkTckIn
  | pinTdiIn => exact Laws.TableRow.pinTdiIn
  | pinNResetIn => exact Laws.TableRow.pinNResetIn

namespace OpcodeRow

/-- Every word of the row is the encoded word of an operation. -/
def Names (r : OpcodeRow) : Prop := ∀ w, r.covers w = true → ∃ i, encode i = w

/-- The fixed bits of a row that fixes the reserved byte and the code: the code is the row's, and the argument and flag
bytes are 0 where the mask has a 1. -/
theorem fields_of_covers {n : String} {m w : Word} {op : Byte} (hreserved : reservedField m = 0xFF)
    (hop : opField m = 0xFF) (h : covers ⟨n, m, packWord op 0 0⟩ w = true) :
    packWord op (argField w) (flagField w) = w ∧ argField w &&& argField m = 0 ∧ flagField w &&& flagField m = 0 := by
  have hbits : w &&& m = packWord op 0 0 := by simpa [covers] using h
  have field (start : Nat) :
      w.extractLsb' start 8 &&& m.extractLsb' start 8 = (packWord op 0 0).extractLsb' start 8 := by
    rw [← BitVec.extractLsb'_and, hbits]
  have whole (b : Byte) : b &&& 0xFF = b := BitVec.and_allOnes
  have hwop : opField w = op :=
    calc opField w
      _ = opField w &&& opField m := by rw [hop, whole]
      _ = op := (field 0).trans (opField_packWord ..)
  have hwreserved : reservedField w = 0 :=
    calc reservedField w
      _ = reservedField w &&& reservedField m := by rw [hreserved, whole]
      _ = 0 := (field 24).trans (reservedField_packWord ..)
  exact ⟨hwop ▸ packWord_fields hwreserved, (field 8).trans (argField_packWord ..),
    (field 16).trans (flagField_packWord ..)⟩

/-- A row that fixes every bit is the word of one operation. -/
theorem Names.plain {n : String} {p : Word} (i : Instr) (hi : encode i = p) : Names ⟨n, 0xFFFFFFFF#32, p⟩ := by
  intro w h
  have hbits : w &&& 0xFFFFFFFF#32 = p := by simpa [covers] using h
  exact ⟨i, hi.trans (hbits.symm.trans BitVec.and_allOnes)⟩

/-- In a row that leaves the argument byte free, the argument byte is the operand. -/
theorem Names.argument {n : String} {p : Word} {op : Byte} (j : Byte → Instr)
    (hj : ∀ a, encode (j a) = packWord op a 0) (hp : packWord op 0 0 = p) : Names ⟨n, 0xFFFF00FF#32, p⟩ := by
  subst hp
  intro w h
  obtain ⟨hw, -, hflag⟩ := fields_of_covers rfl rfl h
  have hzero : flagField w = 0 := BitVec.and_allOnes.symm.trans hflag
  exact ⟨j (argField w), by rw [hj, ← hzero, hw]⟩

/-- For a level-taking accessor it is the level and the ignored bits (R99). -/
theorem Names.level {n : String} {p : Word} {op : Byte} (j : Bool → BitVec 7 → Instr)
    (hj : ∀ level ignored, encode (j level ignored) = packWord op (levelArg level ignored) 0)
    (hp : packWord op 0 0 = p) : Names ⟨n, 0xFFFF00FF#32, p⟩ :=
  argument (fun a => j (a.getLsbD 0) (a.extractLsb' 1 7)) (fun a => by rw [hj, levelArg_bits]) hp

/-- The row of `CLOCK_SEQUENCE` leaves `F[2:0]` free (R96). -/
theorem Names.clockSequence {n : String} : Names ⟨n, 0xFFF8FFFF#32, packWord 0x10#8 0 0⟩ := by
  intro w h
  obtain ⟨hw, harg, hflag⟩ := fields_of_covers rfl rfl h
  have hzero : argField w = 0 := BitVec.and_allOnes.symm.trans harg
  have hfixed : ∀ f : Byte, f &&& 0xF8 = 0 → f.extractLsb' 3 5 = 0 := by decide
  rw [hzero] at hw
  exact ⟨_, (encode_clockSequence_bits (hfixed _ hflag)).trans hw⟩

/-- The row of `JTAG_TRANSFER` leaves the argument byte and `F[3]` free (R96). -/
theorem Names.jtagTransfer {n : String} : Names ⟨n, 0xFFF700FF#32, packWord 0x23#8 0 0⟩ := by
  intro w h
  obtain ⟨hw, -, hflag⟩ := fields_of_covers rfl rfl h
  have hfixed : ∀ f : Byte, f &&& 0xF7 = 0 → f.extractLsb' 0 3 = 0 ∧ f.extractLsb' 4 4 = 0 := by decide
  obtain ⟨hlow, hhigh⟩ := hfixed _ hflag
  exact ⟨_, (encode_jtagTransfer_bit _ hlow hhigh).trans hw⟩

end OpcodeRow

/-- Row by row, in the order of the table. -/
theorem opcodeRows_name : ∀ r ∈ opcodeRows, r.Names := by
  simp only [opcodeRows, List.forall_mem_append, List.forall_mem_cons]
  exact
    ⟨⟨⟨.plain .portOff rfl, .plain .portJtagSetup rfl, .plain .portSwdSetup rfl, .clockSequence,
      .argument .jtagSequence (fun _ => rfl) rfl, .argument .swdSequence (fun _ => rfl) rfl, .plain .swjSequence rfl,
      .plain .jtagReadIdcode rfl, .plain .jtagIr rfl, nofun⟩,
      .plain .jtagDr rfl, .jtagTransfer, .plain .jtagWriteAbort rfl, .argument .swdTransfer (fun _ => rfl) rfl,
      .plain .pinSwclkTckSet rfl, .plain .pinSwclkTckClr rfl, .level .pinSwdioOut (fun _ _ => rfl) rfl,
      .plain .pinSwdioOutEnable rfl, .plain .pinSwdioOutDisable rfl, nofun⟩,
      .level .pinTdiOut (fun _ _ => rfl) rfl, .plain .pinTdoIn rfl, .level .pinNResetOut (fun _ _ => rfl) rfl,
      .plain .pinSwdioTmsSet rfl, .plain .pinSwdioTmsClr rfl, .plain .pinSwdioIn rfl, .plain .pinSwclkTckIn rfl,
      .plain .pinTdiIn rfl, .plain .pinNResetIn rfl, nofun⟩

/-- Settles O3: an accepted word is an encoded word, and those are the words of the rows. -/
theorem decoderAcceptsExactlyTheTableRows : Obligations.DecoderAcceptsExactlyTheTableRows := by
  intro w
  simp only [decode_eq_ok_iff]
  constructor
  · rintro ⟨i, rfl⟩
    obtain ⟨hcovers, hrow⟩ := encode_in_table i
    exact ⟨rowOf i, hrow, hcovers⟩
  · rintro ⟨r, hr, hcovers⟩
    exact opcodeRows_name r hr w hcovers

end Sys2Proof
end

section
/-! A reserved command word (30_encoding.md R99): the step that rejects it. -/

namespace Sys2Proof.Machine

theorem fetch_of_decode_error {s : State} {c : Command} {rest : List Command} {e : EncodingProblem}
    (hprogram : s.program = c :: rest) (hdecode : decode c.word = .error e) : fetch s = .rejected e := by
  simp only [fetch, hprogram, hdecode]

theorem step_of_fetch_rejected {s : State} {e : EncodingProblem} (hfetch : fetch s = .rejected e) :
    step s = .refused (.reservedEncoding e) := by
  simp only [step, hfetch]

/-- Settles O6: the fetch rejects the word by the decoder's reason, and the step by the fetch's. -/
theorem stepRefusesReservedWords : Obligations.StepRefusesReservedWords :=
  fun _ _ _ _ hprogram hdecode => step_of_fetch_rejected (fetch_of_decode_error hprogram hdecode)

end Sys2Proof.Machine
end

section
/-! When an operation completes and when it is refused (30_encoding.md R98, 60_exceptions.md R299, 70_reset_and_hazards.md
R334): the checks of `refusals` held against the mode table and the legal operands, and the reason that is named. -/

namespace Sys2Proof.Machine

/-! ### The operations that complete -/

/-- Nothing refuses an operation exactly where its mode and its operands are the ones the spec allows. -/
theorem refusals_none_iff (i : Instr) (s : State) :
    (∀ c ∈ refusals i s, c = none) ↔
      performedIn i s.mode = true ∧ i.operandsLegal s.params s.operands = true := by
  cases i with
  | clockSequence cap held outPresent =>
    cases outPresent <;> simp [refusals, performedIn, Instr.operandsLegal, countOperand]
  | jtagSequence info => simp [refusals, performedIn, Instr.operandsLegal, seqCount_eq_infoCycles]
  | swdSequence info =>
    cases h : infoCapture info <;>
      simp_all [refusals, performedIn, Instr.operandsLegal, seqCount_eq_infoCycles, infoCapture_eq]
  | swjSequence => simp [refusals, performedIn, Instr.operandsLegal, countOperand]
  | jtagDr => simp [refusals, performedIn, Instr.operandsLegal, countOperand, and_assoc]
  | _ => simp [refusals, performedIn, Instr.operandsLegal]

/-- An operation answers a next state exactly where nothing refuses it and the engine answers the cycles it clocks. -/
theorem exec_eq_next_iff {i : Instr} {s t : State} :
    exec i s = .next t ↔
      (∀ c ∈ refusals i s, c = none) ∧ (clocksCycles i s = true → engineStuck s = false) ∧ completed i s = t := by
  rw [exec_eq, unlessRefused_next]
  cases clocksCycles i s <;> simp [unlessStuck_next]

/-- Settles O7: the three conditions of `CanRun` are those of `exec_eq_next_iff`, and the next state is `completed`. -/
theorem operationsCompleteExactlyWhenAllowed : Obligations.OperationsCompleteExactlyWhenAllowed := by
  intro i s
  simp only [exec_eq_next_iff, refusals_none_iff]
  constructor
  · rintro ⟨t, ⟨hmode, hoperands⟩, hengine, -⟩
    exact ⟨hmode, hoperands, hengine⟩
  · rintro ⟨hmode, hoperands, hengine⟩
    exact ⟨completed i s, ⟨hmode, hoperands⟩, hengine, rfl⟩

/-! ### The reason of a refusal -/

/-- An operation is refused for the first check that fails; the wait for the engine refuses nothing (R299 (a)). -/
theorem exec_eq_refused_iff {i : Instr} {s : State} {r : Refusal} :
    exec i s = .refused r ↔ (refusals i s).findSome? id = some r := by
  rw [exec_eq, unlessRefused]
  cases (refusals i s).findSome? id with
  | some r' => simp
  | none => cases clocksCycles i s <;> cases h : engineStuck s <;> simp [unlessStuck, h]

/-- The mode is checked first (log 11): where the table refuses, that check fails. -/
theorem refusals_head_of_wrongMode {i : Instr} {s : State} (h : performedIn i s.mode = false) :
    (refusals i s).head? = some (some .wrongMode) := by
  cases i <;> simp_all [refusals, performedIn, needsJtag, needsSwd, needsActiveMode]

theorem countCheck_ne_wrongMode (s : State) : countCheck s ≠ some .wrongMode := by
  unfold countCheck; split <;> nofun

theorem bitCountCheck_ne_wrongMode (s : State) : bitCountCheck s ≠ some .wrongMode := by
  unfold bitCountCheck; split <;> nofun

theorem bufferCheck_ne_wrongMode (n : Nat) (s : State) : bufferCheck n s ≠ some .wrongMode := by
  unfold bufferCheck; split <;> nofun

theorem chainCheck_ne_wrongMode (s : State) : chainCheck s ≠ some .wrongMode := by
  unfold chainCheck; dsimp only; split <;> nofun

theorem irLengthCheck_ne_wrongMode (s : State) : irLengthCheck s ≠ some .wrongMode := by
  unfold irLengthCheck; split
  · split <;> nofun
  · nofun

theorem timestampCheck_ne_wrongMode (s : State) : timestampCheck s ≠ some .wrongMode := by
  unfold timestampCheck; split <;> nofun

/-- No check of the operands names the mode: in a mode the table performs the operation in, no check does. -/
theorem refusals_ne_wrongMode {i : Instr} {s : State} (h : performedIn i s.mode = true) :
    ∀ c ∈ refusals i s, c ≠ some .wrongMode := by
  have hcount := countCheck_ne_wrongMode s
  have hbits := bitCountCheck_ne_wrongMode s
  have hbuffer (n : Nat) := bufferCheck_ne_wrongMode n s
  have hchain := chainCheck_ne_wrongMode s
  have hir := irLengthCheck_ne_wrongMode s
  have htimestamp := timestampCheck_ne_wrongMode s
  cases i with
  | clockSequence cap held outPresent =>
    have hactive : needsActiveMode s = none := (needsActiveMode_none s).mpr (by simpa [performedIn] using h)
    cases outPresent <;> simp [refusals, hactive, hcount, hbuffer]
  | swdSequence info =>
    have hswd : needsSwd s = none := (needsSwd_none s).mpr (by simpa [performedIn] using h)
    cases hinfo : infoCapture info <;> simp [refusals, hswd, hinfo, hbuffer]
  | swdTransfer request =>
    have hswd : needsSwd s = none := (needsSwd_none s).mpr (by simpa [performedIn] using h)
    simp [refusals, hswd, htimestamp]
  | jtagSequence _ | jtagReadIdcode | jtagIr | jtagDr | jtagTransfer _ _ | jtagWriteAbort =>
    have hjtag : needsJtag s = none := (needsJtag_none s).mpr (by simpa [performedIn] using h)
    simp [refusals, hjtag, hbits, hbuffer, hchain, hir, htimestamp]
  | swjSequence => simp [refusals, hcount, hbuffer]
  | _ => simp [refusals]

/-- Settles O8: the mode check comes first, so its reason is named; no later check gives that reason. -/
theorem wrongModeIsRefusedByTheTable : Obligations.WrongModeIsRefusedByTheTable := by
  intro i s
  rw [exec_eq_refused_iff]
  constructor
  · intro h
    obtain ⟨c, hc, hreason⟩ := List.exists_of_findSome?_eq_some h
    by_contra hmode
    exact refusals_ne_wrongMode (by simpa using hmode) c hc hreason
  · intro h
    obtain ⟨rest, hrest⟩ := List.head?_eq_some_iff.mp (refusals_head_of_wrongMode h)
    simp [hrest]

end Sys2Proof.Machine
end

section
/-! The computed outcomes (45_common_laws.md R280): the acknowledge remap (30_encoding.md R90) and the request packet as a
byte (R85). -/

namespace Sys2Proof.Machine

theorem jtagAck_eq_ok {a : BitVec 3} : jtagAck a = .ok ↔ a = 0b001#3 := by
  unfold jtagAck; split <;> simp_all

/-- The remap is its own inverse: it swaps two wires. -/
theorem jtagAckRemap_jtagAckRemap (w : BitVec 3) : jtagAckRemap (jtagAckRemap w) = w := by
  revert w; decide

/-- Settles O49: the bits are those of the shifts and masks; Ok is the value the remap takes to `0b001`, and the remap
undone there gives `0b010`. -/
theorem acknowledgeRemapSwapsTheLowBits : Obligations.AcknowledgeRemapSwapsTheLowBits := by
  intro w
  have hok : jtagAckRemap w = 0b001#3 ↔ w = 0b010#3 := by
    constructor
    · intro h
      rw [← jtagAckRemap_jtagAckRemap w, h]; rfl
    · rintro rfl; rfl
  refine ⟨?_, ?_, ?_, jtagAck_eq_ok.trans hok⟩ <;> simp [jtagAckRemap]

/-- `parity4` is the exclusive or of the four bits (R220). -/
theorem parity4_eq (h : BitVec 4) :
    parity4 h = (h.getLsbD 0 ^^ h.getLsbD 1 ^^ h.getLsbD 2 ^^ h.getLsbD 3) := by
  simp [parity4, xorBits, wordBits, List.range_succ]

/-- `P` of the request packet (R85, R222). -/
theorem headerParity_eq (request : Byte) :
    headerParity request =
      (request.getLsbD 0 ^^ request.getLsbD 1 ^^ request.getLsbD 2 ^^ request.getLsbD 3) := by
  simp [headerParity, parity4_eq]

/-- Settles O50: bit by bit, the start and stop bits, the four header bits one place up, and the parity. -/
theorem packetByteIsFramed : Obligations.PacketByteIsFramed := by
  intro request
  refine BitVec.eq_of_getLsbD_eq fun i hi => ?_
  rw [wordOfBits_getLsbD, ← headerParity_eq]
  interval_cases i <;> simp [packetBits, reqAPnDP, reqRnW, reqA2, reqA3]

end Sys2Proof.Machine
end

section
/-! The pin accessors that write a latch or switch the direction of SWDIO (40_line_driver.md R112, R114, R118, R120 to
R125, R127 to R129): what R118 makes of the continuation state for each line, then the Line Driver primitive on that
line as one record. -/

namespace Sys2Proof.Machine

/-- A latch write of SWDIO/TMS (R118): the held mode-select level in JTAG mode, the driven bit of an output in SWD
mode. -/
theorem contUpdateOnSet_swdioTms_cont (b : Level) (s : State) :
    (contUpdateOnSet .swdioTms b s).cont =
      if s.mode = .jtag then s.cont.map fun c => { c with lastModeSelectLevel := b }
      else if s.mode = .swd ∧ s.oe.swdioTms = true then s.cont.map fun c => { c with lastDrivenBit := b }
      else s.cont := by
  cases hm : s.mode with
  | disabled => simp [contUpdateOnSet, hm]
  | jtag => simp [contUpdateOnSet, hm, setContModeSelect]
  | swd => cases ho : s.oe.swdioTms <;> simp [contUpdateOnSet, hm, ho, setContDriven]

/-- A latch write of TDI (R118): the driven bit in JTAG mode. -/
theorem contUpdateOnSet_tdi_cont (b : Level) (s : State) :
    (contUpdateOnSet .tdi b s).cont =
      if s.mode = .jtag then s.cont.map fun c => { c with lastDrivenBit := b } else s.cont := by
  cases hm : s.mode <;> simp [contUpdateOnSet, hm, setContDriven]

/-- A latch write of any other line leaves the continuation state alone (R118). -/
theorem contUpdateOnSet_of_ne {l : Line} (htms : l ≠ .swdioTms) (htdi : l ≠ .tdi) (b : Level) (s : State) :
    contUpdateOnSet l b s = s := by
  unfold contUpdateOnSet
  split
  · exact absurd rfl htdi
  · exact absurd rfl htms
  · exact absurd rfl htms
  · rfl

/-- `LineSet` on a line that carries no data bit and no mode select: the latch and its event, nothing else. -/
theorem lineSet_of_ne {l : Line} (htms : l ≠ .swdioTms) (htdi : l ≠ .tdi) (b : Level) (s : State) :
    lineSet l b s = { s with out := s.out.set l b, trace := s.trace ++ [.lvl l b] } := by
  rw [lineSet_eq, contUpdateOnSet_of_ne htms htdi]

/-- `LineSet` on SWDIO/TMS. -/
theorem lineSet_swdioTms (b : Level) (s : State) :
    lineSet .swdioTms b s =
      { s with
        out := { s.out with swdioTms := b }
        cont :=
          if s.mode = .jtag then s.cont.map fun c => { c with lastModeSelectLevel := b }
          else if s.mode = .swd ∧ s.oe.swdioTms = true then s.cont.map fun c => { c with lastDrivenBit := b }
          else s.cont
        trace := s.trace ++ [.lvl .swdioTms b] } := by
  rw [lineSet_eq, contUpdateOnSet_swdioTms_cont, Lines.set]

/-- `LineSet` on TDI. -/
theorem lineSet_tdi (b : Level) (s : State) :
    lineSet .tdi b s =
      { s with
        out := { s.out with tdi := b }
        cont := if s.mode = .jtag then s.cont.map fun c => { c with lastDrivenBit := b } else s.cont
        trace := s.trace ++ [.lvl .tdi b] } := by
  rw [lineSet_eq, contUpdateOnSet_tdi_cont, Lines.set]

/-- Enabling the SWDIO output (R118, R119): in SWD mode the latch becomes the level on the wire. -/
theorem lineDir_swdioTms_output (s : State) :
    lineDir .swdioTms true s =
      { s with
        oe := { s.oe with swdioTms := true }
        cont := if s.mode = .swd then s.cont.map fun c => { c with lastDrivenBit := s.out.swdioTms } else s.cont
        trace := s.trace ++ [.dir .swdioTms true] } := by
  rw [lineDir_eq]
  cases hm : s.mode <;> simp [contUpdateOnDir, hm, setContDriven, Lines.set]

/-- Disabling the SWDIO output (R118, R119): the continuation state stays. -/
theorem lineDir_swdioTms_input (s : State) :
    lineDir .swdioTms false s =
      { s with oe := { s.oe with swdioTms := false }, trace := s.trace ++ [.dir .swdioTms false] } := by
  rw [lineDir_eq]
  cases hm : s.mode <;> simp [contUpdateOnDir, hm, Lines.set]

/-- An operation that no check guards and that clocks no cycle completes in every state (R134). -/
theorem exec_of_unguarded {i : Instr} {s t : State} (hchecks : refusals i s = []) (hcycles : clocksCycles i s = false)
    (ht : completed i s = t) : exec i s = .next t :=
  exec_eq_next_iff.mpr ⟨by simp [hchecks], by simp [hcycles], ht⟩

/-- Settles O58: each accessor is `LineSet` on its line (R120 to R122, R125, R127 to R129). -/
theorem pinAccessorsSetLatches : Obligations.PinAccessorsSetLatches := by
  intro s b ignored
  exact
    ⟨exec_of_unguarded rfl rfl (lineSet_of_ne (l := .swclkTck) nofun nofun true s),
      exec_of_unguarded rfl rfl (lineSet_of_ne (l := .swclkTck) nofun nofun false s),
      exec_of_unguarded rfl rfl (lineSet_swdioTms b s),
      exec_of_unguarded rfl rfl (lineSet_swdioTms true s),
      exec_of_unguarded rfl rfl (lineSet_swdioTms false s),
      exec_of_unguarded rfl rfl (lineSet_tdi b s),
      exec_of_unguarded rfl rfl (lineSet_of_ne (l := .nReset) nofun nofun b s)⟩

/-- Settles O59: each accessor is `LineDir` on SWDIO (R123, R124). -/
theorem pinAccessorsSwitchDirection : Obligations.PinAccessorsSwitchDirection := fun s =>
  ⟨exec_of_unguarded rfl rfl (lineDir_swdioTms_output s), exec_of_unguarded rfl rfl (lineDir_swdioTms_input s)⟩

end Sys2Proof.Machine
end

section
/-! A driving `clockSequence` in SWD mode (41_bit_sequence_engine.md R146, R148, R153): SWDIO is made an output, a run of
driven pulses follows, and the held level is recorded. -/

namespace Sys2Proof.Machine

theorem lastLevel_eq_getLastD (d : Level) (bits : List Level) : lastLevel d bits = bits.getLastD d := by
  induction bits generalizing d with
  | nil => rfl
  | cons b bits ih => rw [lastLevel_cons, ih, List.getLastD_cons]

/-- Of at least one level the default does not matter. -/
theorem lastLevel_of_ne_nil {bits : List Level} (h : bits ≠ []) (d e : Level) : lastLevel d bits = bits.getLastD e := by
  cases bits with
  | nil => contradiction
  | cons b bits => rw [lastLevel_cons, lastLevel_eq_getLastD, List.getLastD_cons]

/-- The state after at least one driven SWCLK pulse. -/
theorem afterDriven_of_ne_nil {bits : List Level} (h : bits ≠ []) (s : State) :
    afterDriven bits s =
      { s with
        out := { s.out with swclkTck := true, swdioTms := bits.getLastD true }
        cont := s.cont.map fun c => { c with lastDrivenBit := bits.getLastD true }
        trace := s.trace ++ swdDriven bits } := by
  simp [afterDriven, lastLevel_of_ne_nil h _ true, h]

/-- The driven pulses of a sequence (R146, R147): the levels of `outData`, or the continuation bit in every cycle. -/
theorem runActions_driveLevels (n : Nat) (out : Option (List Level)) (s : State) :
    runActions ((driveLevels n out).map fun d => .swdOut d) s =
      (afterDriven (out.getD (levels n (contDrivenBit s))) s, []) := by
  cases out with
  | some bits => simpa [driveLevels, Function.comp_def] using runActions_driven bits s
  | none => simpa [driveLevels, levels] using runActions_driven_none n s

/-- The continuation bit once SWDIO is made an output in SWD mode is the latch (R118). -/
theorem contDrivenBit_lineDir_output {s : State} (hm : s.mode = .swd) (hc : s.cont.isSome = true) :
    contDrivenBit (lineDir .swdioTms true s) = s.out.swdioTms := by
  simpa [runAction] using contDrivenBit_dir hm hc .swdioTms true

/-- An operation that can run ends in the state `completed` names. -/
theorem exec_of_canRun {i : Instr} {s t : State} (h : CanRun i s) (ht : completed i s = t) : exec i s = .next t :=
  exec_eq_next_iff.mpr ⟨(refusals_none_iff i s).mpr ⟨h.mode, h.operands⟩, h.engine, ht⟩

/-- Everything a driving `clockSequence` does in SWD mode where it drives at least one level. -/
theorem clockSequence_swd_drives {s : State} {c : Continuation} {n : Nat} (hm : s.mode = .swd) (hc : s.cont = some c)
    (hn : n ≠ 0) (held : Level) {out : Option (List Level)} {drive : List Level}
    (hdrive : out.getD (levels n s.out.swdioTms) = drive) (hne : drive ≠ []) :
    clockSequence n held false out s =
      { s with
        oe := { s.oe with swdioTms := true }
        out := { s.out with swclkTck := true, swdioTms := drive.getLastD true }
        cont := some { lastDrivenBit := drive.getLastD true, lastModeSelectLevel := held }
        trace := s.trace ++ [.dir .swdioTms true] ++ swdDriven drive } := by
  have hrun : runActions (clockActions .swd n held false out) s =
      (afterDriven drive (lineDir .swdioTms true s), []) := by
    simp [clockActions, clockSwdActions, runActions_cons, runAction, runActions_driveLevels,
      contDrivenBit_lineDir_output hm (Option.isSome_of_mem hc), hdrive]
  simp [clockSequence, hn, hrun, recordHeld_eq, afterDriven_of_ne_nil hne, lineDir_swdioTms_output, hm, hc]

/-- Settles O30: `clockSequence_swd_drives` with the bits of `outData`, or with the latch in every cycle. -/
theorem clockSequenceDrivesInSwdMode : Obligations.ClockSequenceDrivesInSwdMode := by
  intro s c held outPresent hrun hm hc hpos n drive
  have hlength : drive.length = n := by cases outPresent <;> simp [drive, levels, bufferBits]
  have hdrive : (if outPresent then some (txBits n s) else none).getD (levels n s.out.swdioTms) = drive := by
    cases outPresent <;> rfl
  have hne : drive ≠ [] := List.ne_nil_of_length_pos (hlength ▸ hpos)
  exact exec_of_canRun hrun (clockSequence_swd_drives hm hc hpos.ne' held hdrive hne)

end Sys2Proof.Machine
end

section
/-! `clockSequence` as one record (41_bit_sequence_engine.md R146 to R148, R153, R154): the count of 0, the TCK pulses
of JTAG mode, and the released pulses of a capture in SWD mode; then the two sequence operations built on it (R155 to
R158). -/

namespace Sys2Proof.Machine

/-! ### The count of 0 -/

/-- A sequence of no cycles is a no-op (R154). -/
@[simp] theorem clockSequence_zero (held : Level) (cap : Bool) (out : Option (List Level)) (s : State) :
    clockSequence 0 held cap out s = s := if_pos rfl

/-- Settles O27: a count of 0 passes the checks of `COUNT` and `TXBUF`, clocks no cycle and makes no action. -/
theorem zeroCountIsANoOp : Obligations.ZeroCountIsANoOp := by
  intro s cap held outPresent hcount
  have hzero : countOperand s = 0 := by simp [countOperand, hcount]
  constructor
  · intro hm
    refine exec_eq_next_iff.mpr ⟨(refusals_none_iff _ s).mpr ⟨bne_iff_ne.mpr hm, ?_⟩, ?_, ?_⟩
    · simp [Instr.operandsLegal, Operands.countLegal, Operands.txbufHolds, hcount]
    · simp [clocksCycles, hzero]
    · simp [completed, hzero]
  · refine exec_eq_next_iff.mpr ⟨(refusals_none_iff _ s).mpr ⟨rfl, ?_⟩, ?_, ?_⟩
    · simp [Instr.operandsLegal, Operands.countLegal, Operands.txbufHolds, hcount]
    · simp [clocksCycles, hzero]
    · simp [completed, hzero, swjActions, txBits, bufferBits]

/-! ### JTAG mode -/

theorem lastLevel_levels {n : Nat} (hn : n ≠ 0) (d b : Level) : lastLevel d (levels n b) = b := by
  simp [levels, lastLevel_replicate, hn]

@[simp] theorem txBits_length (n : Nat) (s : State) : (txBits n s).length = n := by simp [txBits, bufferBits]

/-- The levels a sequence drives from the continuation bit `d` on (R147). -/
theorem resolve_driveLevels (d : Level) (n : Nat) (out : Option (List Level)) :
    resolve d (driveLevels n out) = out.getD (levels n d) := by
  cases out <;> simp [driveLevels, levels]

/-- The TCK pulses of a sequence: all at one TMS level, all recorded or none (R146). -/
theorem runActions_clockJtag {n : Nat} (hn : n ≠ 0) (held : Level) (cap : Bool) (out : Option (List Level))
    (s : State) {drive : List Level} (hdrive : out.getD (levels n (contDrivenBit s)) = drive)
    (hlength : drive.length = n) :
    runActions (clockJtagActions n held cap out) s =
      (afterTck (levels n held) drive (levels n cap) s, if cap then answers n s else []) := by
  have hresolve : resolve (contDrivenBit s) (driveLevels n out) = drive := (resolve_driveLevels _ n out).trans hdrive
  have hcount : (driveLevels n out).length = n := by rw [← resolve_length, hresolve, hlength]
  have hne : driveLevels n out ≠ [] := List.ne_nil_of_length_pos (by omega)
  have hpulses := runActions_tck ((driveLevels n out).map fun d => ⟨held, d, cap⟩) s (by simpa using hne)
  have hcaptured : captured (answers n s) (levels n cap) = if cap then answers n s else [] := by
    cases cap with
    | true => exact captured_all _ n (answers_length n s)
    | false => exact captured_none _ n
  simpa [clockJtagActions, TckPulse.action, Function.comp_def, hresolve, hcount, levels, ← hcaptured] using hpulses

/-- Everything `clockSequence` does in JTAG mode where it clocks at least one cycle. -/
theorem clockSequence_jtag {s : State} {n : Nat} (hm : s.mode = .jtag) (hn : n ≠ 0) (held : Level) (cap : Bool)
    {out : Option (List Level)} {drive : List Level} (hdrive : out.getD (levels n (contDrivenBit s)) = drive)
    (hlength : drive.length = n) :
    clockSequence n held cap out s =
      { s with
        out := { s.out with swclkTck := true, swdioTms := held, tdi := drive.getLastD true }
        cont := some { lastDrivenBit := drive.getLastD true, lastModeSelectLevel := held }
        rxbuf := if cap then Mem.writeBytes s.rxbuf 0 (packBytes (answers n s)) else s.rxbuf
        written := if cap then { s.written with rxBytes := (n + 7) / 8 } else s.written
        target := s.target.drop n
        samples := s.samples + n
        trace := s.trace ++ jtagRun (levels n held) drive (answers n s) (levels n cap) } := by
  have hne : drive ≠ [] := List.ne_nil_of_length_pos (by omega)
  have hcount : (levels n held).length = n := List.length_replicate
  have hrun := runActions_clockJtag hn held cap out s hdrive hlength
  cases cap <;>
    simp [clockSequence, clockActions, hn, hm, hrun, recordHeld_eq, afterTck, hcount, lastLevel_levels hn,
      lastLevel_of_ne_nil hne _ true, storeCapture, byteCount]

/-- Settles O28: `clockSequence_jtag` with the bits of `outData`, or with the continuation bit in every cycle. -/
theorem clockSequenceInJtagMode : Obligations.ClockSequenceInJtagMode := by
  intro s cap held outPresent hrun hm hpos n drive
  have hlength : drive.length = n := by cases outPresent <;> simp [drive, levels, bufferBits]
  have hdrive : (if outPresent then some (txBits n s) else none).getD (levels n (contDrivenBit s)) = drive := by
    cases outPresent <;> rfl
  exact exec_of_canRun hrun (clockSequence_jtag hm hpos.ne' held cap hdrive hlength)

/-! ### A capture in SWD mode -/

/-- The state after at least one recorded SWCLK pulse. -/
theorem afterReleased_recorded {n : Nat} (hn : n ≠ 0) (s : State) :
    afterReleased n true s =
      { s with
        out := { s.out with swclkTck := true }
        cont := s.cont.map fun c => { c with lastDrivenBit := (answers n s).getLastD true }
        target := s.target.drop n
        samples := s.samples + n
        trace := s.trace ++ swdReleased (answers n s) true } := by
  have hne : answers n s ≠ [] := List.ne_nil_of_length_pos (by simp; omega)
  simp [afterReleased, hn, lastLevel_of_ne_nil hne _ true]

/-- Everything a capturing `clockSequence` does in SWD mode where it clocks at least one cycle. -/
theorem clockSequence_swd_captures {s : State} {n : Nat} (hm : s.mode = .swd) (hn : n ≠ 0) (held : Level)
    (out : Option (List Level)) :
    clockSequence n held true out s =
      { s with
        oe := { s.oe with swdioTms := false }
        out := { s.out with swclkTck := true }
        cont := s.cont.map fun _ =>
          { lastDrivenBit := (answers n s).getLastD true, lastModeSelectLevel := held }
        rxbuf := Mem.writeBytes s.rxbuf 0 (packBytes (answers n s))
        written := { s.written with rxBytes := (n + 7) / 8 }
        target := s.target.drop n
        samples := s.samples + n
        trace := s.trace ++ [.dir .swdioTms false] ++ swdReleased (answers n s) true } := by
  have hanswers : answers n (lineDir .swdioTms false s) = answers n s := by simp [answers, lineDir_swdioTms_input]
  have hrun : runActions (clockActions .swd n held true out) s =
      (afterReleased n true (lineDir .swdioTms false s), answers n s) := by
    simp [clockActions, clockSwdActions, runActions_cons, runAction, runActions_released, hanswers]
  simp [clockSequence, hn, hm, hrun, recordHeld_eq, afterReleased_recorded hn, answers, lineDir_swdioTms_input,
    storeCapture, byteCount, Function.comp_def]

/-- Settles O29: `clockSequence_swd_captures`, whatever `outData`. -/
theorem clockSequenceCapturesInSwdMode : Obligations.ClockSequenceCapturesInSwdMode :=
  fun _ held _ hrun hm hpos => exec_of_canRun hrun (clockSequence_swd_captures hm hpos.ne' held _)

/-! ### The sequence operations with an `info` byte -/

/-- Settles O33: `clockSequence_jtag` with the fields of the `info` byte. -/
theorem jtagSequenceClocksTheInfoByte : Obligations.JtagSequenceClocksTheInfoByte := by
  intro s info hrun n drive
  have hcount : seqCount info = n := seqCount_eq_infoCycles info
  have hn : n ≠ 0 := by have := (seqCount_bounds info).1; omega
  refine exec_of_canRun hrun ?_
  rw [completed, hcount]
  exact clockSequence_jtag (eq_of_beq hrun.mode) hn _ _ rfl (txBits_length n s)

/-- The bits of `outData` driven in SWD mode, whether or not there is a continuation state to record them in. -/
theorem clockSequence_swd_drives_bits {s : State} {n : Nat} (hm : s.mode = .swd) (hn : n ≠ 0) (held : Level)
    {bits : List Level} (hne : bits ≠ []) :
    clockSequence n held false (some bits) s =
      { s with
        oe := { s.oe with swdioTms := true }
        out := { s.out with swclkTck := true, swdioTms := bits.getLastD true }
        cont := s.cont.map fun _ => { lastDrivenBit := bits.getLastD true, lastModeSelectLevel := held }
        trace := s.trace ++ [.dir .swdioTms true] ++ swdDriven bits } := by
  have hrun : runActions (clockActions .swd n held false (some bits)) s =
      (afterDriven bits (lineDir .swdioTms true s), []) := by
    simp [clockActions, clockSwdActions, runActions_cons, runAction, runActions_driveLevels]
  simp [clockSequence, hn, hrun, recordHeld_eq, afterDriven_of_ne_nil hne, lineDir_swdioTms_output, hm,
    Function.comp_def]

/-- To record the held level that is already recorded is to keep it (R157). -/
theorem cont_map_contModeSelect (b : Level) (s : State) :
    (s.cont.map fun _ => { lastDrivenBit := b, lastModeSelectLevel := contModeSelect s }) =
      s.cont.map fun c => { c with lastDrivenBit := b } := by
  cases hc : s.cont with
  | none => rfl
  | some c => simp [contModeSelect, hc]

/-- Settles O34: `info[7]` set is a capture, clear a driven sequence, each at the held level there is. -/
theorem swdSequenceSamplesOrDrives : Obligations.SwdSequenceSamplesOrDrives := by
  intro s info hrun n drive
  have hm : s.mode = .swd := eq_of_beq hrun.mode
  have hcount : seqCount info = n := seqCount_eq_infoCycles info
  have hn : n ≠ 0 := by have := (seqCount_bounds info).1; omega
  have hne : drive ≠ [] := List.ne_nil_of_length_pos (by simp [drive, bufferBits]; omega)
  refine exec_of_canRun hrun ?_
  rw [completed, hcount]
  cases hcap : infoCapture info with
  | true =>
    have hbit : info.getLsbD 7 = true := hcap
    simp only [hbit, if_true]
    rw [clockSequence_swd_captures hm hn, cont_map_contModeSelect]
  | false =>
    have hbit : info.getLsbD 7 = false := hcap
    simp only [hbit, Bool.false_eq_true, if_false]
    rw [show txBits n s = drive from rfl, clockSequence_swd_drives_bits hm hn _ hne, cont_map_contModeSelect]

end Sys2Proof.Machine
end

section
/-! One cycle of the software backend (41_bit_sequence_engine.md R140, R151): the latch writes in order, each by its own
record, against the cycle of the engine (R141 to R143). -/

namespace Sys2Proof.Machine

/-- A line that is not an output reads as the oracle's level (R28, R113). -/
theorem lineGet_of_input {l : Line} {s : State} (h : s.oe.get l = false) :
    lineGet l s = (oracleLevel s, consumeSample s) := by
  simp [lineGet_eq, h]

/-- A write of the clock latch (R112): the latch and its event, nothing else. -/
theorem lineSet_swclkTck (b : Level) (s : State) :
    lineSet .swclkTck b s =
      { s with out := { s.out with swclkTck := b }, trace := s.trace ++ [.lvl .swclkTck b] } :=
  lineSet_of_ne (l := .swclkTck) nofun nofun b s

/-- The TCK pulse made of latch writes (R140): the state of R141, with the four latch writes in the trace. -/
theorem softwareCycle_eq {s : State} (hm : s.mode = .jtag) (hc : s.cont.isSome = true) (htdo : s.oe.tdo = false)
    (tms tdi : Level) :
    softwareCycle tms tdi s =
      (oracleLevel s,
        { s with
          out := { s.out with swclkTck := true, swdioTms := tms, tdi := tdi }
          cont := some { lastDrivenBit := tdi, lastModeSelectLevel := tms }
          target := s.target.tail
          samples := s.samples + 1
          trace := s.trace ++
            [.lvl .swdioTms tms, .lvl .tdi tdi, .lvl .swclkTck false, .lvl .swclkTck true] }) := by
  obtain ⟨c, hcont⟩ := Option.isSome_iff_exists.mp hc
  simp [softwareCycle, lineSet_swdioTms, lineSet_tdi, lineSet_swclkTck, lineGet_of_input, htdo, hm, hcont, oracleLevel,
    consumeSample]

/-- The driven SWCLK pulse made of latch writes (R140): the state of R142, with the three latch writes in the trace. -/
theorem softwareDrivenCycle_eq {s : State} (hm : s.mode = .swd) (ho : s.oe.swdioTms = true) (b : Level) :
    softwareDrivenCycle b s =
      { s with
        out := { s.out with swclkTck := true, swdioTms := b }
        cont := s.cont.map fun c => { c with lastDrivenBit := b }
        trace := s.trace ++ [.lvl .swdioTms b, .lvl .swclkTck false, .lvl .swclkTck true] } := by
  simp [softwareDrivenCycle, lineSet_swdioTms, lineSet_swclkTck, hm, ho]

/-- The released SWCLK pulse made of latch writes (R140): the state of R143, with the two latch writes in the trace. -/
theorem softwareReleasedCycle_eq {s : State} (ho : s.oe.swdioTms = false) (cap : Bool) :
    softwareReleasedCycle cap s =
      (oracleLevel s,
        { s with
          out := { s.out with swclkTck := true }
          cont := if cap then s.cont.map fun c => { c with lastDrivenBit := oracleLevel s } else s.cont
          target := s.target.tail
          samples := s.samples + 1
          trace := s.trace ++ [.lvl .swclkTck false, .lvl .swclkTck true] }) := by
  cases cap <;>
    simp [softwareReleasedCycle, lineSet_swclkTck, lineGet_of_input, ho, oracleLevel, consumeSample, setContDriven]

/-- Settles O38: the records of the three software cycles against those of the engine's cycles. -/
theorem softwareCycleMatchesTheCycle : Obligations.SoftwareCycleMatchesTheCycle := by
  refine ⟨fun s tms tdi cap hm hc htdo => ?_, fun s b hm ho => ?_, fun s cap _ ho => ?_⟩
  · rw [softwareCycle_eq hm hc htdo, jCycle_eq]
    exact ⟨rfl, rfl⟩
  · rw [softwareDrivenCycle_eq hm ho, sCycleOut_eq]
  · rw [softwareReleasedCycle_eq ho, sCycleIn_eq]
    exact ⟨rfl, rfl⟩

end Sys2Proof.Machine
end

section
/-! The burst split of the hardware backend (41_bit_sequence_engine.md R149, R150, R160): a burst with its drive bits
loaded runs as the same cycles of the per-cycle contract do, and the bursts follow one another without a gap. -/

namespace Sys2Proof.Machine

/-! ### The cycles of a sequence, by drive level -/

/-- The cycles of a sequence with the levels `ds` to drive, `none` for the continuation bit (R146). -/
def sequenceCycles (m : Mode) (held : Level) (cap : Bool) (ds : List (Option Level)) : List Action :=
  match m with
  | .jtag => ds.map fun d => .jtag held d cap
  | .swd => if cap then ds.map fun _ => .swdIn true else ds.map fun d => .swdOut d
  | .disabled => []

theorem sequenceCycles_append (m : Mode) (held : Level) (cap : Bool) (ds es : List (Option Level)) :
    sequenceCycles m held cap (ds ++ es) = sequenceCycles m held cap ds ++ sequenceCycles m held cap es := by
  cases m <;> cases cap <;> simp [sequenceCycles]

/-- The per-cycle contract is the direction helper and then the cycles (R146, R153). -/
theorem clockActions_eq (m : Mode) {n : Nat} (held : Level) (cap : Bool) {out : Option (List Level)}
    (hcount : (driveLevels n out).length = n) :
    clockActions m n held cap out = burstDirection m cap ++ sequenceCycles m held cap (driveLevels n out) := by
  cases m with
  | disabled => rfl
  | jtag => rfl
  | swd =>
    cases cap with
    | true => simp [clockActions, clockSwdActions, burstDirection, sequenceCycles, List.map_const', hcount]
    | false => rfl

/-- A burst is the cycles that drive its loaded bits (R149). -/
theorem burstActions_eq (m : Mode) (held : Level) (cap : Bool) (bits : List Level) :
    burstActions m held cap bits = sequenceCycles m held cap (bits.map some) := by
  cases m <;> cases cap <;> simp [burstActions, sequenceCycles, Function.comp_def]

/-! ### One burst -/

/-- Cycles that are given the continuation bit run as cycles that repeat it (R147). -/
theorem runActions_sequenceCycles_levels (m : Mode) (held : Level) (cap : Bool) (n : Nat) (s : State) :
    runActions (sequenceCycles m held cap ((levels n (contDrivenBit s)).map some)) s =
      runActions (sequenceCycles m held cap (List.replicate n none)) s := by
  cases m with
  | disabled => rfl
  | jtag =>
    rcases Nat.eq_zero_or_pos n with rfl | hn
    · rfl
    · have hlength : (levels n (contDrivenBit s)).length = n := List.length_replicate
      exact (runActions_clockJtag hn.ne' held cap (some (levels n (contDrivenBit s))) s rfl hlength).trans
        (runActions_clockJtag hn.ne' held cap none s rfl hlength).symm
  | swd =>
    cases cap with
    | true => simp [sequenceCycles, levels]
    | false =>
      exact (runActions_driveLevels n (some (levels n (contDrivenBit s))) s).trans (runActions_driveLevels n none s).symm

/-- A burst runs as the cycles of the contract it stands for do: those from cycle `start` on (R149, R150). -/
theorem runActions_burst (m : Mode) (held : Level) (cap : Bool) (out : Option (List Level)) {count start n : Nat}
    (hwithin : start + n ≤ count) (s : State) :
    runActions (burstActions m held cap (burstBits out start n s)) s =
      runActions (sequenceCycles m held cap (((driveLevels count out).drop start).take n)) s := by
  rw [burstActions_eq]
  cases out with
  | some bits => simp [burstBits, driveLevels]
  | none =>
    have hslice : ((driveLevels count none).drop start).take n = List.replicate n none := by
      simp [driveLevels]; omega
    rw [hslice]
    exact runActions_sequenceCycles_levels m held cap n s

/-! ### The bursts of a request -/

/-- Bursts in increasing order run as the cycles of the contract they cover do, in one go. -/
theorem runBursts_eq (m : Mode) (held : Level) (cap : Bool) (out : Option (List Level)) {count start : Nat}
    (sizes : List Nat) (hwithin : start + sizes.sum ≤ count) (s : State) :
    runBursts m held cap out sizes start s =
      runActions (sequenceCycles m held cap (((driveLevels count out).drop start).take sizes.sum)) s := by
  induction sizes generalizing start s with
  | nil => cases m <;> cases cap <;> simp [runBursts, sequenceCycles]
  | cons n sizes ih =>
    rw [List.sum_cons] at hwithin ⊢
    rw [runBursts, runActions_burst m held cap out (count := count) (by omega),
      ih (start := start + n) (by omega), List.take_add, List.drop_drop, sequenceCycles_append, runActions_append]

/-- The bursts cover the request (R149). -/
theorem burstSizes_sum (m count : Nat) : (burstSizes m count).sum = count := by
  have hrest : (if count % m = 0 then [] else [count % m]).sum = count % m := by
    split
    · next h => simp [h]
    · simp
  rw [burstSizes, List.sum_append, hrest, List.sum_replicate, smul_eq_mul, Nat.mul_comm]
  exact Nat.div_add_mod count m

/-- Settles O32: the bursts cover the request, so they run as its cycles in one go, after the direction helper. -/
theorem burstSplitIsInvisible : Obligations.BurstSplitIsInvisible := by
  intro m n held cap out s _ _ hbits
  have hcount : (driveLevels n out).length = n := by
    cases out with
    | some bits => simpa [driveLevels] using hbits bits rfl
    | none => simp [driveLevels]
  have hbursts (t : State) : runBursts s.mode held cap out (burstSizes m n) 0 t =
      runActions (sequenceCycles s.mode held cap (driveLevels n out)) t := by
    rw [runBursts_eq _ _ _ _ (count := n) _ (by simp [burstSizes_sum]), burstSizes_sum, List.drop_zero,
      List.take_of_length_le hcount.le]
  have hquiet (t : State) : (runActions (burstDirection s.mode cap) t).2 = [] := by
    cases s.mode <;> rfl
  simp only [clockSequenceBursts, clockSequence, hbursts, clockActions_eq s.mode held cap hcount, runActions_append,
    hquiet, List.nil_append]

end Sys2Proof.Machine
end

section
/-! The continuation bit across operations that drive no data-out bit (10_state.md R22, 41_bit_sequence_engine.md R147,
R152): what such an operation can do in JTAG mode, and what every operation but a mode operation keeps. -/

namespace Sys2Proof.Machine

/-! ### What an operation that drives nothing keeps -/

/-- A mode operation ends the continuation state, and counts as driving (R22). -/
theorem isModeOperation_of_quiet {i : Instr} {s : State} (h : drivesDataOut i s = false) :
    isModeOperation i = false := by
  cases i with
  | portOff => cases h
  | portJtagSetup => cases h
  | portSwdSetup => cases h
  | _ => rfl

/-- No wire action ends a continuation state. -/
theorem runAction_keeps_cont {a : Action} {s : State} (h : s.cont.isSome = true) :
    (runAction a s).1.cont.isSome = true := by
  cases a with
  | jtag tms tdi cap => rfl
  | _ => rwa [runAction_cont_isSome rfl]

/-- Only a mode operation ends the continuation state (R22). -/
theorem Performs.cont_isSome {i : Instr} {s t : State} (h : Performs i s t) (hi : isModeOperation i = false)
    (hs : s.cont.isSome = true) : t.cont.isSome = true := by
  induction h with
  | start => exact hs
  | action a _ _ ih => exact runAction_keeps_cont ih
  | select m c x slew o hmode => simp [hi] at hmode
  | @held t b _ ih =>
    rw [recordHeld_eq]
    split <;> simpa using ih
  | _ => assumption

/-- In JTAG mode an operation that completes and drives no TDI bit does nothing, writes the latch of another line,
switches the direction of SWDIO, or reads a pin. -/
theorem completed_of_quiet {i : Instr} {s : State} (hm : s.mode = .jtag) (hperformed : performedIn i s.mode = true)
    (hquiet : drivesDataOut i s = false) :
    completed i s = s ∨ (∃ l b, l ≠ .tdi ∧ completed i s = lineSet l b s) ∨
      (∃ d, completed i s = lineDir .swdioTms d s) ∨ ∃ l, completed i s = pinRead l s := by
  cases i with
  | clockSequence cap held outPresent =>
    have hcount : countOperand s = 0 := by simpa [drivesDataOut, clocksCycles, hm] using hquiet
    exact .inl (by simp [completed, hcount])
  | swjSequence =>
    have hcount : countOperand s = 0 := by simpa [drivesDataOut, isModeOperation, clocksCycles, hm] using hquiet
    exact .inl (by simp [completed, hcount, swjActions, txBits, bufferBits])
  | swdSequence info => simp [performedIn, hm] at hperformed
  | pinTdiOut level ignored => simp [drivesDataOut, hm] at hquiet
  | pinSwclkTckSet => exact .inr (.inl ⟨.swclkTck, true, nofun, rfl⟩)
  | pinSwclkTckClr => exact .inr (.inl ⟨.swclkTck, false, nofun, rfl⟩)
  | pinSwdioOut level ignored => exact .inr (.inl ⟨.swdioTms, level, nofun, rfl⟩)
  | pinSwdioTmsSet => exact .inr (.inl ⟨.swdioTms, true, nofun, rfl⟩)
  | pinSwdioTmsClr => exact .inr (.inl ⟨.swdioTms, false, nofun, rfl⟩)
  | pinNResetOut level ignored => exact .inr (.inl ⟨.nReset, level, nofun, rfl⟩)
  | pinSwdioOutEnable => exact .inr (.inr (.inl ⟨true, rfl⟩))
  | pinSwdioOutDisable => exact .inr (.inr (.inl ⟨false, rfl⟩))
  | pinTdoIn => exact .inr (.inr (.inr ⟨.tdo, rfl⟩))
  | pinSwdioIn => exact .inr (.inr (.inr ⟨.swdioTms, rfl⟩))
  | pinSwclkTckIn => exact .inr (.inr (.inr ⟨.swclkTck, rfl⟩))
  | pinTdiIn => exact .inr (.inr (.inr ⟨.tdi, rfl⟩))
  | pinNResetIn => exact .inr (.inr (.inr ⟨.nReset, rfl⟩))
  | _ => cases hquiet

/-- In JTAG mode only a write of TDI changes the continuation bit (R118). -/
theorem contDrivenBit_lineSet_jtag {s : State} (hm : s.mode = .jtag) {l : Line} (hl : l ≠ .tdi) (b : Level) :
    contDrivenBit (lineSet l b s) = contDrivenBit s := by
  by_cases htms : l = .swdioTms
  · subst htms
    cases hc : s.cont <;> simp [lineSet_swdioTms, contDrivenBit, hm, hc]
  · exact contDrivenBit_congr (by rw [lineSet_of_ne htms hl])

/-- In JTAG mode a switch of direction leaves the continuation bit alone (R118). -/
theorem contDrivenBit_lineDir_jtag {s : State} (hm : s.mode = .jtag) (d : Bool) :
    contDrivenBit (lineDir .swdioTms d s) = contDrivenBit s := by
  cases d with
  | true => exact contDrivenBit_congr (by simp [lineDir_swdioTms_output, hm])
  | false => exact contDrivenBit_congr (by rw [lineDir_swdioTms_input])

theorem contDrivenBit_pinRead (l : Line) (s : State) : contDrivenBit (pinRead l s) = contDrivenBit s := by
  apply contDrivenBit_congr
  rw [pinRead_eq]
  split <;> rfl

/-- In JTAG mode an operation that drives no TDI bit keeps the continuation bit (R22, R152). -/
theorem contDrivenBit_of_quiet {i : Instr} {s t : State} (h : exec i s = .next t) (hm : s.mode = .jtag)
    (hquiet : drivesDataOut i s = false) : contDrivenBit t = contDrivenBit s := by
  obtain ⟨hchecks, rfl⟩ := exec_next h
  rcases completed_of_quiet hm (performedIn_of_refusals hchecks) hquiet with
    hnone | ⟨l, b, hl, hset⟩ | ⟨d, hdir⟩ | ⟨l, hread⟩
  · rw [hnone]
  · rw [hset, contDrivenBit_lineSet_jtag hm hl]
  · rw [hdir, contDrivenBit_lineDir_jtag hm]
  · rw [hread, contDrivenBit_pinRead]

/-! ### Runs of operations that drive nothing -/

/-- A run of such operations keeps what each of them keeps, the exchange of the operands before it included. -/
theorem runQuiet_induction {P : State → Prop} (hoperands : ∀ s o, P s → P { s with operands := o })
    (hexec : ∀ i s t, exec i s = .next t → drivesDataOut i s = false → P s → P t)
    {between : List (Instr × Operands)} {s r : State} (h : runQuiet between s = some r) (hs : P s) : P r := by
  induction between generalizing s with
  | nil => exact Option.some.inj h ▸ hs
  | cons step rest ih =>
    obtain ⟨i, o⟩ := step
    rw [runQuiet] at h
    split at h
    · cases h
    · next hquiet =>
      split at h
      · next t hnext => exact ih h (hexec _ _ t hnext (by simpa using hquiet) (hoperands s o hs))
      · cases h
      · cases h

/-- The mode outlasts such a run (R21). -/
theorem runQuiet_mode {between : List (Instr × Operands)} {s r : State} (h : runQuiet between s = some r) :
    r.mode = s.mode :=
  runQuiet_induction (P := fun u => u.mode = s.mode) (fun _ _ hu => hu)
    (fun _ _ _ hnext hquiet hu =>
      ((exec_performs hnext).selection (isModeOperation_of_quiet hquiet)).1.trans hu) h rfl

/-- The continuation state outlasts such a run (R22). -/
theorem runQuiet_cont_isSome {between : List (Instr × Operands)} {s r : State} (h : runQuiet between s = some r)
    (hs : s.cont.isSome = true) : r.cont.isSome = true :=
  runQuiet_induction (P := fun u => u.cont.isSome = true) (fun _ _ hu => hu)
    (fun _ _ _ hnext hquiet => (exec_performs hnext).cont_isSome (isModeOperation_of_quiet hquiet)) h hs

/-- In JTAG mode the continuation bit outlasts such a run (R152). -/
theorem runQuiet_contDrivenBit {between : List (Instr × Operands)} {s r : State} (h : runQuiet between s = some r)
    (hm : s.mode = .jtag) : contDrivenBit r = contDrivenBit s :=
  (runQuiet_induction (P := fun u => u.mode = .jtag ∧ contDrivenBit u = contDrivenBit s) (fun _ _ hu => hu)
    (fun _ _ _ hnext hquiet ⟨hmode, hbit⟩ =>
      ⟨((exec_performs hnext).selection (isModeOperation_of_quiet hquiet)).1.trans hmode,
        (contDrivenBit_of_quiet hnext hmode hquiet).trans hbit⟩) h ⟨hm, rfl⟩).2

/-! ### The call that continues -/

/-- Settles O31. In JTAG mode the continuation bit is the last bit driven and outlasts the operations between; in SWD
mode the latch is that bit, and the call without `outData` places it on the wire. -/
theorem continuationRepeatsTheLastBit : Obligations.ContinuationRepeatsTheLastBit := by
  intro s t r between o cap held cap' held' hpos hfirst hbetween hrun hpos' n b
  obtain ⟨-, rfl⟩ := exec_next hfirst
  have hn : countOperand s ≠ 0 := hpos.ne'
  have hn' : n ≠ 0 := hpos'.ne'
  have hfirstMode := ((exec_performs hfirst).selection rfl).1
  have hmode : r.mode = s.mode := (runQuiet_mode hbetween).trans hfirstMode
  refine ⟨fun hm => ?_, fun hm hc hdriven hdrive hlatch => ?_⟩
  · have hdrove := clockSequence_jtag hm hn held cap (out := some (txBits _ s)) rfl (txBits_length _ s)
    have hbit : contDrivenBit { r with operands := o } = b :=
      (runQuiet_contDrivenBit hbetween (hfirstMode.trans hm)).trans (congrArg contDrivenBit hdrove)
    have hcontinues := clockSequence_jtag (s := { r with operands := o }) (hmode.trans hm) hn' held' cap' (out := none)
      (congrArg (levels n) hbit) List.length_replicate
    exact ⟨_, exec_of_canRun hrun hcontinues, rfl⟩
  · subst hdriven hdrive
    obtain ⟨c, hcont⟩ := Option.isSome_iff_exists.mp hc
    have hne : txBits (countOperand s) s ≠ [] := List.ne_nil_of_length_pos (by rw [txBits_length]; exact hpos)
    have hdrove := clockSequence_swd_drives hm hcont hn held (out := some (txBits _ s)) rfl hne
    obtain ⟨d, hcont'⟩ := Option.isSome_iff_exists.mp
      (runQuiet_cont_isSome hbetween ((exec_performs hfirst).cont_isSome rfl hc))
    have hbit : r.out.swdioTms = b := hlatch.trans (congrArg (·.out.swdioTms) hdrove)
    have hcontinues := clockSequence_swd_drives (s := { r with operands := o }) (hmode.trans hm) hcont' hn' held'
      (out := none) (congrArg (levels n) hbit) (by simpa [levels] using hn')
    exact ⟨_, exec_of_canRun hrun hcontinues, rfl⟩

end Sys2Proof.Machine
end

section
/-! Runs of TCK pulses as strings (42_jtag_tap.md R175 to R179): each part of a scan, by the TMS levels, the TDI levels
and the recording marks of its pulses, and the state after a scan with its park. -/

namespace Sys2Proof.Machine

/-! ### Action lists that are runs of TCK pulses -/

/-- The actions are TCK pulses with these TMS levels, TDI levels (`none` for the continuation bit) and recording marks,
one entry a pulse. -/
def Clocks (as : List Action) (tms : List Level) (tdi : List (Option Level)) (cap : List Bool) : Prop :=
  ∃ ps : List TckPulse,
    as = ps.map TckPulse.action ∧ tms = ps.map (·.tms) ∧ tdi = ps.map (·.tdi) ∧ cap = ps.map (·.cap)

theorem Clocks.one (tms : Level) (tdi : Option Level) (cap : Bool) :
    Clocks [.jtag tms tdi cap] [tms] [tdi] [cap] :=
  ⟨[⟨tms, tdi, cap⟩], rfl, rfl, rfl, rfl⟩

theorem Clocks.append {as bs : List Action} {tms tms' : List Level} {tdi tdi' : List (Option Level)}
    {cap cap' : List Bool} (ha : Clocks as tms tdi cap) (hb : Clocks bs tms' tdi' cap') :
    Clocks (as ++ bs) (tms ++ tms') (tdi ++ tdi') (cap ++ cap') := by
  obtain ⟨ps, rfl, rfl, rfl, rfl⟩ := ha
  obtain ⟨qs, rfl, rfl, rfl, rfl⟩ := hb
  exact ⟨ps ++ qs, by simp, by simp, by simp, by simp⟩

/-- The strings of a run may be written in any equal way. -/
theorem Clocks.congr {as bs : List Action} {tms tms' : List Level} {tdi tdi' : List (Option Level)}
    {cap cap' : List Bool} (h : Clocks as tms tdi cap) (has : bs = as) (htms : tms' = tms) (htdi : tdi' = tdi)
    (hcap : cap' = cap) : Clocks bs tms' tdi' cap' := by
  subst has htms htdi hcap
  exact h

theorem Clocks.tdi_length {as : List Action} {tms : List Level} {tdi : List (Option Level)} {cap : List Bool}
    (h : Clocks as tms tdi cap) : tdi.length = tms.length := by
  obtain ⟨ps, -, rfl, rfl, -⟩ := h
  simp

theorem Clocks.cap_length {as : List Action} {tms : List Level} {tdi : List (Option Level)} {cap : List Bool}
    (h : Clocks as tms tdi cap) : cap.length = tms.length := by
  obtain ⟨ps, -, rfl, -, rfl⟩ := h
  simp

/-- Everything a run of at least one pulse does: `runActions_tck`, by its strings. -/
theorem Clocks.run {as : List Action} {tms : List Level} {tdi : List (Option Level)} {cap : List Bool}
    (h : Clocks as tms tdi cap) (hne : tms ≠ []) (s : State) :
    runActions as s =
      (afterTck tms (resolve (contDrivenBit s) tdi) cap s, captured (answers tms.length s) cap) := by
  obtain ⟨ps, rfl, rfl, rfl, rfl⟩ := h
  simpa using runActions_tck ps s (by simpa using hne)

/-! ### The parts of a scan -/

theorem levels_add (m n : Nat) (b : Level) : levels (m + n) b = levels m b ++ levels n b :=
  List.replicate_add m n b

@[simp] theorem levels_length (n : Nat) (b : Level) : (levels n b).length = n := List.length_replicate

/-- A walk drives the continuation bit and records nothing (R177). -/
theorem clocks_walk (p : List Level) :
    Clocks (walk p) p (List.replicate p.length none) (levels p.length false) :=
  ⟨p.map fun m => ⟨m, none, false⟩, by simp [walk, TckPulse.action, Function.comp_def],
    by simp [Function.comp_def], by simp [Function.comp_def], by simp [Function.comp_def, levels]⟩

/-- Filler cycles stay at TMS = 0 and record nothing (R175). -/
theorem clocks_fillers (n : Nat) (fill : Option Level) :
    Clocks (fillers n fill) (levels n false) (List.replicate n fill) (levels n false) :=
  ⟨List.replicate n ⟨false, fill, false⟩, by simp [fillers, TckPulse.action], by simp [levels], by simp,
    by simp [levels]⟩

/-- Payload cycles stay at TMS = 0, and all of them record or none does. -/
theorem clocks_payloadCycles (bits : List (Option Level)) (cap : Bool) :
    Clocks (payloadCycles bits cap) (levels bits.length false) bits (levels bits.length cap) :=
  ⟨bits.map fun b => ⟨false, b, cap⟩, by simp [payloadCycles, TckPulse.action, Function.comp_def],
    by simp [Function.comp_def, levels], by simp [Function.comp_def], by simp [Function.comp_def, levels]⟩

/-- The payload and the trailing fillers of a scan: TMS is high on the last cycle of all (R178). -/
theorem clocks_shiftPayload {payload : List (Option Level)} (hp : payload ≠ []) (cap : Bool) (na : Nat)
    (fa : Option Level) :
    Clocks (shiftPayload payload cap na fa).actions (levels (payload.length + na - 1) false ++ [true])
      (payload ++ List.replicate na fa) (levels payload.length cap ++ levels na false) := by
  rcases Nat.eq_zero_or_pos na with rfl | hna
  · have hlength : payload.dropLast.length = payload.length - 1 := List.length_dropLast
    have hlast : payload.dropLast ++ [payload.getLastD none] = payload := by
      rw [List.getLastD_eq_getLast?, List.getLast?_eq_some_getLast hp]
      exact List.dropLast_append_getLast hp
    have hmarks : levels payload.length cap = levels (payload.length - 1) cap ++ [cap] := by
      have hpos := List.length_pos_iff.mpr hp
      rw [show [cap] = levels 1 cap from rfl, ← levels_add, Nat.sub_add_cancel hpos]
    refine ((clocks_payloadCycles payload.dropLast cap).append (.one true (payload.getLastD none) cap)).congr ?_ ?_
      ?_ ?_
    · simp [shiftPayload]
    · rw [hlength, Nat.add_zero]
    · simpa using hlast.symm
    · simpa [hlength, levels] using hmarks
  · obtain ⟨k, rfl⟩ := Nat.exists_eq_add_of_lt hna
    refine (((clocks_payloadCycles payload cap).append (clocks_fillers k fa)).append (.one true fa false)).congr
      ?_ ?_ ?_ ?_
    · simp [shiftPayload]
    · simp [levels_add, ← Nat.add_assoc]
    · simp [List.replicate_succ']
    · simp [levels, List.replicate_succ']

/-- The tail without its park: one TMS = 1 cycle to the update, one TMS = 0 cycle to idle, the idle cycles (R179). -/
theorem clocks_tail (idle : Nat) :
    Clocks (tail idle false).actions ([true, false] ++ levels idle false) (List.replicate (2 + idle) none)
      (levels (2 + idle) false) :=
  (((Clocks.one true none false).append (.one false none false)).append (clocks_fillers idle none)).congr
    (by simp [tail]) rfl (by simp [List.replicate_add, List.replicate_succ]) (by simp [levels_add]; rfl)

theorem tail_actions_park (idle : Nat) : (tail idle true).actions = (tail idle false).actions ++ [.set .tdi true] := by
  simp [tail]

/-! ### A whole scan -/

/-- The TMS string of a scan: the path to the shift state, `places` cycles there, the last of them with TMS high, the
way back to Run-Test/Idle, the idle cycles (R178, R179). -/
def scanTms (path : List Level) (places idle : Nat) : List Level :=
  path ++ levels (places - 1) false ++ [true, true, false] ++ levels idle false

theorem scanTms_length (path : List Level) {places : Nat} (hplaces : 1 ≤ places) (idle : Nat) :
    (scanTms path places idle).length = path.length + places + (2 + idle) := by
  simp [scanTms]; omega

theorem scanTms_ne_nil (path : List Level) (places idle : Nat) : scanTms path places idle ≠ [] := by
  simp [scanTms]

/-- A scan ends with TMS low. -/
@[simp] theorem lastLevel_scanTms (d : Level) (path : List Level) (places idle : Nat) :
    lastLevel d (scanTms path places idle) = false := by
  simp [scanTms, levels, lastLevel_replicate]

/-- A scan without its park: the cycles before the payload, which end with `k` of them in the shift state, then payload,
trailing fillers and tail. -/
theorem Clocks.scan {as : List Action} {path : List Level} {k : Nat} {tdi : List (Option Level)} {cap : List Bool}
    (h : Clocks as (path ++ levels k false) tdi cap) {payload : List (Option Level)} (hp : payload ≠ [])
    (record : Bool) (na : Nat) (fa : Option Level) (idle : Nat) :
    Clocks (as ++ (shiftPayload payload record na fa).actions ++ (tail idle false).actions)
      (scanTms path (k + payload.length + na) idle)
      (tdi ++ (payload ++ List.replicate na fa) ++ List.replicate (2 + idle) none)
      (cap ++ levels payload.length record ++ levels (na + (2 + idle)) false) := by
  have hplaces : k + payload.length + na - 1 = k + (payload.length + na - 1) := by
    have := List.length_pos_iff.mpr hp
    omega
  refine ((h.append (clocks_shiftPayload hp record na fa)).append (clocks_tail idle)).congr rfl ?_ rfl ?_
  · simp [scanTms, hplaces, levels_add]
  · simp [levels_add]

/-- The cycles of a scan, then the park of TDI (R179). -/
def ClocksThenParks (as : List Action) (tms : List Level) (tdi : List (Option Level)) (cap : List Bool) : Prop :=
  ∃ cycles, as = cycles ++ [.set .tdi true] ∧ Clocks cycles tms tdi cap

/-- The samples recorded by one stretch of a run. -/
theorem captured_window {ts : List Level} {k m r : Nat} (h : ts.length = k + m + r) :
    captured ts (levels k false ++ levels m true ++ levels r false) = (ts.drop k).take m := by
  have hsplit : ts = ts.take k ++ ((ts.drop k).take m ++ (ts.drop k).drop m) := by simp
  conv_lhs => rw [hsplit]
  rw [List.append_assoc, captured_append (by simp; omega), captured_append (by simp; omega), levels, levels, levels,
    captured_none, captured_none, captured_all _ m (by simp; omega)]
  simp

theorem ClocksThenParks.congr {as : List Action} {tms tms' : List Level} {tdi tdi' : List (Option Level)}
    {cap cap' : List Bool} (h : ClocksThenParks as tms tdi cap) (htms : tms' = tms) (htdi : tdi' = tdi)
    (hcap : cap' = cap) : ClocksThenParks as tms' tdi' cap' := by
  subst htms htdi hcap
  exact h

/-- The state after a scan of `n` cycles that parks TDI: the idle levels, the answers taken, and the wire trace. -/
def afterParked (n : Nat) (tms tdi : List Level) (cap : List Bool) (s : State) : State :=
  { s with
    out := { s.out with swclkTck := true, swdioTms := false, tdi := true }
    cont := some { lastDrivenBit := true, lastModeSelectLevel := false }
    target := s.target.drop n
    samples := s.samples + n
    trace := s.trace ++ jtagRun tms tdi (answers n s) cap ++ [.lvl .tdi true] }

/-- Everything a scan with its park does in JTAG mode that records `m` samples in one stretch, after `k` cycles and
before `r`; the strings may be given in any equal way. -/
theorem ClocksThenParks.run {as : List Action} {path : List Level} {places idle k m r : Nat}
    {tdi : List (Option Level)}
    (h : ClocksThenParks as (scanTms path places idle) tdi (levels k false ++ levels m true ++ levels r false))
    {s : State} (hm : s.mode = .jtag) {n : Nat} (hn : k + m + r = n) {tms drive : List Level}
    (htms : scanTms path places idle = tms) (hdrive : resolve (contDrivenBit s) tdi = drive) :
    runActions as s =
      (afterParked n tms drive (levels k false ++ levels m true ++ levels r false) s,
        ((answers n s).drop k).take m) := by
  obtain ⟨cycles, rfl, hcycles⟩ := h
  have hlow (d : Level) : lastLevel d tms = false := by rw [← htms, lastLevel_scanTms]
  have hne : tms ≠ [] := htms ▸ scanTms_ne_nil path places idle
  rw [htms] at hcycles
  have hlength : tms.length = n := by
    rw [← hn, ← hcycles.cap_length]
    simp [Nat.add_assoc]
  rw [runActions_append, hcycles.run hne, hlength, captured_window (by simp [hn]), hdrive]
  simp [runActions_cons, runAction, lineSet_tdi, afterTck, afterParked, hm, hlow, hlength]

end Sys2Proof.Machine
end

section
/-! The IDCODE read and the two register shifts as scans (42_jtag_tap.md R180 to R188): the strings of their cycles. -/

namespace Sys2Proof.Machine

/-! ### The scans of the register operations -/

/-- The cycles before a payload: the walk and the leading fillers. -/
theorem clocks_walk_fillers (path : List Level) (nb : Nat) (fb : Option Level) :
    Clocks (walk path ++ fillers nb fb) (path ++ levels nb false)
      (List.replicate path.length none ++ List.replicate nb fb) (levels (path.length + nb) false) :=
  ((clocks_walk path).append (clocks_fillers nb fb)).congr rfl rfl rfl (levels_add _ _ _)

/-- A walk and a `ShiftBody`, up to the park (R177 to R179). -/
theorem clocks_walk_shiftBody (path : List Level) {payload : List (Option Level)} (hp : payload ≠ []) (record : Bool)
    (nb : Nat) (fb : Option Level) (na : Nat) (fa : Option Level) (idle : Nat) :
    Clocks (walk path ++ (shiftBody payload record nb fb na fa).actions ++ (tail idle false).actions)
      (scanTms path (nb + payload.length + na) idle)
      (List.replicate path.length none ++ List.replicate nb fb ++ (payload ++ List.replicate na fa) ++
        List.replicate (2 + idle) none)
      (levels (path.length + nb) false ++ levels payload.length record ++ levels (na + (2 + idle)) false) :=
  ((clocks_walk_fillers path nb fb).scan hp record na fa idle).congr (by simp [shiftBody]) rfl rfl rfl

/-- A scan whose actions end with the park. -/
theorem Clocks.parks {as bs : List Action} {tms : List Level} {tdi : List (Option Level)} {cap : List Bool} {idle : Nat}
    (h : Clocks (bs ++ (tail idle false).actions) tms tdi cap) (has : as = bs ++ (tail idle true).actions) :
    ClocksThenParks as tms tdi cap :=
  ⟨_, by rw [has, tail_actions_park, List.append_assoc], h⟩

/-- The path of an IDCODE read to Shift-DR, with its preamble or without (R180). -/
def idcodePath (fromReset : Bool) : List Level := (if fromReset then resetPreamble else []) ++ toShiftDR

theorem idcodePhases_clocks (fromReset : Bool) (c : ChainPosition) :
    Clocks (idcodePhases fromReset c).actions (scanTms (idcodePath fromReset) (fillersBefore c + 32) 0)
      (List.replicate ((idcodePath fromReset).length + fillersBefore c + 34) none)
      (levels ((idcodePath fromReset).length + fillersBefore c) false ++ levels 32 true ++ levels 2 false) :=
  (clocks_walk_shiftBody (idcodePath fromReset) (payload := undrivenBits 32) (by simp [undrivenBits]) true
    (fillersBefore c) none 0 none 0).congr
    (by cases fromReset <;> simp [idcodePhases, idcodePath, walk])
    rfl (by simp only [undrivenBits, List.replicate_append_replicate, Nat.add_assoc, Nat.reduceAdd]) rfl

@[simp] theorem drivenBits_length (bits : List Level) : (drivenBits bits).length = bits.length := List.length_map _

theorem drivenBits_ne_nil {bits : List Level} (h : 1 ≤ bits.length) : drivenBits bits ≠ [] := by
  have : 0 < (drivenBits bits).length := by rwa [drivenBits_length]
  exact List.ne_nil_of_length_pos this

theorem irPhases_parks (ir : Word) {len : Nat} (hlen : 1 ≤ len) (c : ChainPosition) :
    ClocksThenParks (irPhases ir len c).actions
      (scanTms toShiftIR (c.irBeforeBits.toNat + len + c.irAfterBits.toNat) 0)
      (List.replicate 4 none ++ drivenBits (levels c.irBeforeBits.toNat true) ++
        drivenBits (wordBits ir len ++ levels c.irAfterBits.toNat true) ++ List.replicate 2 none)
      (levels (4 + c.irBeforeBits.toNat) false ++ levels len true ++ levels (c.irAfterBits.toNat + 2) false) :=
  ((clocks_walk_shiftBody toShiftIR (drivenBits_ne_nil (bits := wordBits ir len) (by simpa)) true
    c.irBeforeBits.toNat (some true) c.irAfterBits.toNat (some true) 0).congr
    rfl (by simp) (by simp [drivenBits, levels]; rfl) (by simp; rfl)).parks (by simp [irPhases])

theorem drPhases_parks {bits : List Level} (hbits : 1 ≤ bits.length) (c : ChainPosition) :
    ClocksThenParks (drPhases bits c).actions
      (scanTms toShiftDR (fillersBefore c + bits.length + fillersAfter c) 0)
      (List.replicate (3 + fillersBefore c) none ++ drivenBits bits ++ List.replicate (fillersAfter c + 2) none)
      (levels (3 + fillersBefore c) false ++ levels bits.length true ++ levels (fillersAfter c + 2) false) :=
  ((clocks_walk_shiftBody toShiftDR (drivenBits_ne_nil hbits) true (fillersBefore c) none (fillersAfter c) none
    0).congr rfl (by simp) (by simp [toShiftDR, List.replicate_add]) (by simp; rfl)).parks (by simp [drPhases])

/-! ### The state after a scan that does not park -/

/-- Everything an IDCODE read does (R180 to R182): it has no park, so TDI stays at the continuation bit. -/
theorem runPhased_idcode (fromReset : Bool) (c : ChainPosition) (s : State) :
    let n := (idcodePath fromReset).length + fillersBefore c + 34
    let d := contDrivenBit s
    runPhased (idcodePhases fromReset c) s =
      ({ s with
          out := { s.out with swclkTck := true, swdioTms := false, tdi := d }
          cont := some { lastDrivenBit := d, lastModeSelectLevel := false }
          target := s.target.drop n
          samples := s.samples + n
          trace := s.trace ++
            jtagRun (scanTms (idcodePath fromReset) (fillersBefore c + 32) 0) (levels n d) (answers n s)
              (levels ((idcodePath fromReset).length + fillersBefore c) false ++ levels 32 true ++ levels 2 false) },
        ((answers n s).drop ((idcodePath fromReset).length + fillersBefore c)).take 32) := by
  intro n d
  have hlength : (scanTms (idcodePath fromReset) (fillersBefore c + 32) 0).length = n := by
    rw [scanTms_length _ (by omega)]
    omega
  rw [runPhased, (idcodePhases_clocks fromReset c).run (scanTms_ne_nil _ _ _), hlength,
    captured_window (by simp; omega)]
  simp [afterTck, hlength, n, d, levels, lastLevel_replicate]

end Sys2Proof.Machine
end

section
/-! The exact next states of the IDCODE read and of the two register shifts (42_jtag_tap.md R180 to R188). -/

namespace Sys2Proof.Machine

/-- Settles O39: `runPhased_idcode`, with its 32 samples in `RDATA`. -/
theorem jtagReadIdcodeCapturesTheIdcode : Obligations.JtagReadIdcodeCapturesTheIdcode := by
  intro s hrun idx pre n d
  refine exec_of_canRun hrun ?_
  have hpath : idcodePath s.params.idcodeFromReset = pre ++ [true, false, false] := rfl
  have hlength : (idcodePath s.params.idcodeFromReset).length + fillersBefore s.operands.cfg.chain =
      pre.length + 3 + idx := by rw [hpath, List.length_append]; rfl
  have htms : scanTms (idcodePath s.params.idcodeFromReset) (fillersBefore s.operands.cfg.chain + 32) 0 =
      pre ++ [true, false, false] ++ levels (idx + 31) false ++ [true] ++ [true, false] := by
    simp [scanTms, hpath, levels, idx, fillersBefore]
  rw [completed, jtagReadIdcode, runPhased_idcode]
  simp only [hlength, htms]
  rfl

/-- The TMS string of a scan without idle cycles. -/
theorem scanTms_noIdle (path : List Level) (places : Nat) :
    scanTms path places 0 = path ++ levels (places - 1) false ++ [true] ++ [true, false] := by
  simp [scanTms, levels]

/-- The levels a register shift with fillers of ones drives, from the continuation bit `d` on (R175, R184). -/
theorem resolve_irScan (d : Level) {bits : List Level} (hbits : bits ≠ []) (before after : Nat) :
    resolve d (List.replicate 4 none ++ drivenBits (levels before true) ++ drivenBits (bits ++ levels after true) ++
        List.replicate 2 none) =
      levels 4 d ++ levels before true ++ bits ++ levels after true ++
        levels 2 (if after = 0 then bits.getLastD true else true) := by
  have hlast : lastLevel (lastLevel d (levels before true)) (bits ++ levels after true) =
      if after = 0 then bits.getLastD true else true := by
    rw [lastLevel_append, levels, levels, lastLevel_replicate, lastLevel_of_ne_nil hbits _ true]
  rw [resolve_append, resolve_append, resolve_append]
  simp only [drivenBits, resolveLast_append, resolveLast_replicate_none, resolveLast_map_some, hlast,
    resolve_replicate_none, resolve_map_some, List.append_assoc]
  rfl

/-- The levels a register shift drives whose fillers carry the continuation bit, `d` at the start (R175, R188). -/
theorem resolve_drScan (d : Level) {bits : List Level} (hbits : bits ≠ []) (m n : Nat) :
    resolve d (List.replicate m none ++ drivenBits bits ++ List.replicate n none) =
      levels m d ++ bits ++ levels n (bits.getLastD true) := by
  rw [resolve_append, resolve_append, resolveLast_append]
  simp only [drivenBits, resolveLast_replicate_none, resolveLast_map_some, lastLevel_of_ne_nil hbits _ true,
    resolve_replicate_none, resolve_map_some, levels]

/-- An instruction shift with legal operands has its register length in the chain descriptor, at least one bit (R172
(c), R183). -/
theorem irLength_of_legal {s : State} (h : Instr.jtagIr.operandsLegal s.params s.operands = true) :
    ∃ len : Word,
      s.operands.cfg.chain.irLengthPerDevice[s.operands.cfg.chain.deviceIndex.toNat]? = some len ∧
        irLength s = len.toNat ∧ 1 ≤ len.toNat := by
  obtain ⟨-, hlegal⟩ : s.operands.cfg.chain.placed s.params = true ∧ s.operands.cfg.chain.irLengthLegal = true := by
    simpa [Instr.operandsLegal] using h
  unfold ChainPosition.irLengthLegal at hlegal
  split at hlegal
  · next len hlen =>
    simp only [Bool.and_eq_true, decide_eq_true_eq] at hlegal
    exact ⟨len, hlen, by simp [irLength, targetIrLength, hlen], hlegal.1⟩
  · cases hlegal

/-- A data shift with legal operands shifts at least one bit (R172 (d)). -/
theorem one_le_count_of_legal {p : Params} {o : Operands} (h : Instr.jtagDr.operandsLegal p o = true) :
    1 ≤ o.count.toNat := by
  simp only [Instr.operandsLegal, Operands.bitCountLegal, Bool.and_eq_true, decide_eq_true_eq] at h
  obtain ⟨⟨-, hpos, -⟩, -⟩ := h
  exact hpos

/-- Settles O40: `irPhases_parks`, with the samples of the payload in `RDATA`. -/
theorem jtagIrShiftsTheInstruction : Obligations.JtagIrShiftsTheInstruction := by
  intro s len hrun hlen before after ir n d last
  refine exec_of_canRun hrun ?_
  obtain ⟨len', hlen', hlength, hpos⟩ := irLength_of_legal hrun.operands
  obtain rfl : len = len' := Option.some.inj (hlen.symm.trans hlen')
  have hir : ir ≠ [] := List.ne_nil_of_length_pos (by simp only [ir, wordBits_length]; exact hpos)
  have hscan := (irPhases_parks s.operands.data hpos s.operands.cfg.chain).run (eq_of_beq hrun.mode) (n := n)
    (by simp only [n, before, after]; omega) (scanTms_noIdle _ _) (resolve_irScan _ hir _ _)
  rw [completed, jtagIr, hlength]
  exact congrArg (fun r => writeRdata (wordOfBits 32 r.2) r.1) hscan

/-- Everything a capture of `n` samples does (R62). -/
theorem storeCapture_of_length {bits : List Level} {n : Nat} (h : bits.length = n) (s : State) :
    storeCapture bits s =
      { s with
        rxbuf := Mem.writeBytes s.rxbuf 0 (packBytes bits)
        written := { s.written with rxBytes := (n + 7) / 8 } } := by
  rw [storeCapture, byteCount, h]

/-- Settles O41: `drPhases_parks`, with the samples of the payload in `RXBUF`. -/
theorem jtagDrShiftsTheData : Obligations.JtagDrShiftsTheData := by
  intro s hrun idx after bits n d
  refine exec_of_canRun hrun ?_
  have hlength : bits.length = s.operands.count.toNat := bufferBits_length _ _
  have hbits : 1 ≤ bits.length := hlength.symm ▸ one_le_count_of_legal hrun.operands
  have hparks := drPhases_parks hbits s.operands.cfg.chain
  rw [hlength] at hparks
  have hscan := hparks.run (eq_of_beq hrun.mode) (n := n)
    (by simp only [n, after, idx, fillersBefore, fillersAfter]; omega)
    (scanTms_noIdle _ _) (resolve_drScan _ (List.ne_nil_of_length_pos hbits) _ _)
  refine (congrArg (fun r => storeCapture r.2 r.1) hscan).trans ?_
  have hsamples : (((answers n s).drop (3 + idx)).take s.operands.count.toNat).length = s.operands.count.toNat := by
    simp [n]
    omega
  exact storeCapture_of_length hsamples _

end Sys2Proof.Machine
end

section
/-! The register transfer and the abort write (42_jtag_tap.md R192 to R200): a transfer as one scan, its early abort
included, and the exact next states. -/

namespace Sys2Proof.Machine

/-! ### A transfer as one scan -/

/-- The request half of a transfer: the walk, the leading fillers, the three recorded request bits (R192, R193). -/
theorem transferRequest_clocks (request : Byte) (c : ChainPosition) :
    Clocks (transferRequest request c).actions (toShiftDR ++ levels (fillersBefore c + 3) false)
      (List.replicate (3 + fillersBefore c) none ++ drivenBits [reqRnW request, reqA2 request, reqA3 request])
      (levels (3 + fillersBefore c) false ++ levels 3 true) :=
  ((clocks_walk_fillers toShiftDR (fillersBefore c) none).append
    (clocks_payloadCycles (drivenBits [reqRnW request, reqA2 request, reqA3 request]) true)).congr
    (by simp [transferRequest, payloadCycles, drivenBits]) (by simp [levels_add, drivenBits])
    (by simp [toShiftDR, List.replicate_add]) rfl

/-- The levels given to TDI after the acknowledge of a transfer: one exit cycle of an abort, or 32 data cycles (R195 to
R197). -/
def transferPayload (abort : Bool) (request : Byte) (data : Word) : List (Option Level) :=
  if abort then [none] else if reqRnW request then undrivenBits 32 else drivenBits (wordBits data 32)

/-- The trailing fillers of a transfer: an abort has none (R195). -/
def transferFillers (abort : Bool) (c : ChainPosition) : Nat := if abort then 0 else fillersAfter c

/-- The places a transfer shifts: the leading fillers, the request, then one exit cycle or the data and its fillers. -/
def transferPlaces (abort : Bool) (c : ChainPosition) : Nat :=
  if abort then fillersBefore c + 4 else fillersBefore c + 35 + fillersAfter c

theorem transferPayload_length (abort : Bool) (request : Byte) (data : Word) :
    (transferPayload abort request data).length = if abort then 1 else 32 := by
  unfold transferPayload
  split
  · rfl
  · split <;> simp [undrivenBits]

/-- The half after the acknowledge is a payload with its fillers and the tail; an abort is a payload of one cycle. -/
theorem transferRest_actions (abort : Bool) (request : Byte) (data : Word) (idle : Nat) (c : ChainPosition) :
    (transferRest abort request data idle c).actions =
      (shiftPayload (transferPayload abort request data) (!abort && reqRnW request) (transferFillers abort c)
        none).actions ++ (tail idle true).actions := by
  cases abort with
  | true => rfl
  | false =>
    cases h : reqRnW request <;> simp [transferRest, transferPayload, transferFillers, transferRead, transferWrite, h]

/-- The cycles of a whole transfer (R192). -/
theorem transfer_parks (abort : Bool) (request : Byte) (data : Word) (idle : Nat) (c : ChainPosition) :
    ClocksThenParks (transferRequest request c ++ transferRest abort request data idle c).actions
      (scanTms toShiftDR (transferPlaces abort c) idle)
      (List.replicate (3 + fillersBefore c) none ++ drivenBits [reqRnW request, reqA2 request, reqA3 request] ++
        transferPayload abort request data ++ List.replicate (transferFillers abort c + (2 + idle)) none)
      (levels (3 + fillersBefore c) false ++ levels 3 true ++
        levels (transferPayload abort request data).length (!abort && reqRnW request) ++
        levels (transferFillers abort c + (2 + idle)) false) := by
  have hne : transferPayload abort request data ≠ [] := by
    apply List.ne_nil_of_length_pos
    rw [transferPayload_length]
    split <;> decide
  have hplaces : fillersBefore c + 3 + (transferPayload abort request data).length + transferFillers abort c =
      transferPlaces abort c := by
    rw [transferPayload_length]
    cases abort <;> rfl
  refine (((transferRequest_clocks request c).scan hne (!abort && reqRnW request) (transferFillers abort c) none
    idle).congr rfl ?_ ?_ rfl).parks ?_
  · rw [hplaces]
  · simp [List.replicate_add]
  · simp [transferRest_actions]

/-- A transfer that ends early: the exit cycle, the tail and the idle cycles carry the last request bit (R195). -/
theorem abortedTransfer_parks (request : Byte) (data : Word) (idle : Nat) (c : ChainPosition) :
    ClocksThenParks (transferRequest request c ++ transferRest true request data idle c).actions
      (scanTms toShiftDR (fillersBefore c + 3 + 1) idle)
      (List.replicate (3 + fillersBefore c) none ++ drivenBits [reqRnW request, reqA2 request, reqA3 request] ++
        List.replicate (3 + idle) none)
      (levels (3 + fillersBefore c) false ++ levels 3 true ++ levels (3 + idle) false) := by
  refine (transfer_parks true request data idle c).congr rfl ?_ ?_
  · rw [show 3 + idle = 1 + (0 + (2 + idle)) by omega, List.replicate_add 1]
    simp [transferPayload, transferFillers]
  · rw [show 3 + idle = 1 + (0 + (2 + idle)) by omega, levels_add 1]
    simp [transferPayload, transferFillers]

/-- A transfer with a read data phase: TDI stays at the last request bit (R196). -/
theorem readTransfer_parks {request : Byte} (hread : reqRnW request = true) (data : Word) (idle : Nat)
    (c : ChainPosition) :
    ClocksThenParks (transferRequest request c ++ transferRest false request data idle c).actions
      (scanTms toShiftDR (fillersBefore c + 3 + 31 + fillersAfter c + 1) idle)
      (List.replicate (3 + fillersBefore c) none ++ drivenBits [reqRnW request, reqA2 request, reqA3 request] ++
        List.replicate (32 + fillersAfter c + 2 + idle) none)
      (levels (3 + fillersBefore c) false ++ levels 35 true ++ levels (fillersAfter c + 2 + idle) false) := by
  refine (transfer_parks false request data idle c).congr ?_ ?_ ?_
  · rw [transferPlaces, if_neg Bool.false_ne_true]
    congr 1
    omega
  · simp only [transferPayload, transferFillers, hread, undrivenBits, Nat.add_assoc, List.replicate_add 32,
      List.append_assoc, if_true, Bool.false_eq_true, if_false]
  · rw [show (35 : Nat) = 3 + 32 from rfl, levels_add 3 32]
    simp [transferPayload, transferFillers, hread, undrivenBits, Nat.add_assoc]

/-- A transfer with a write data phase: the data follows the request bits, and its last bit stays (R197). -/
theorem writeTransfer_parks {request : Byte} (hwrite : reqRnW request = false) (data : Word) (idle : Nat)
    (c : ChainPosition) :
    ClocksThenParks (transferRequest request c ++ transferRest false request data idle c).actions
      (scanTms toShiftDR (fillersBefore c + 3 + 31 + fillersAfter c + 1) idle)
      (List.replicate (3 + fillersBefore c) none ++
        drivenBits ([reqRnW request, reqA2 request, reqA3 request] ++ wordBits data 32) ++
        List.replicate (fillersAfter c + 2 + idle) none)
      (levels (3 + fillersBefore c) false ++ levels 3 true ++ levels (32 + fillersAfter c + 2 + idle) false) := by
  refine (transfer_parks false request data idle c).congr ?_ ?_ ?_
  · rw [transferPlaces, if_neg Bool.false_ne_true]
    congr 1
    omega
  · simp [transferPayload, transferFillers, hwrite, drivenBits, Nat.add_assoc]
  · simp [transferPayload, transferFillers, hwrite, Nat.add_assoc, levels_add 32]

/-! ### The acknowledge -/

/-- The answers to the request bits of a transfer. -/
def ackAnswers (c : ChainPosition) (s : State) : List Level :=
  ((answers (3 + fillersBefore c + 3) s).drop (3 + fillersBefore c)).take 3

/-- The acknowledge of a transfer: the answers to its request bits, remapped (R194). -/
def transferAck (s : State) : BitVec 3 := jtagAckRemap (wordOfBits 3 (ackAnswers s.operands.cfg.chain s))

theorem ackAnswers_length (c : ChainPosition) (s : State) : (ackAnswers c s).length = 3 := by
  simp [ackAnswers]

/-- The request half samples the acknowledge. -/
theorem runPhased_transferRequest (request : Byte) (c : ChainPosition) (s : State) :
    (runPhased (transferRequest request c) s).2 = ackAnswers c s := by
  have hlength : (toShiftDR ++ levels (fillersBefore c + 3) false).length = 3 + fillersBefore c + 3 := by
    simp [toShiftDR]; omega
  have hwindow := captured_window (ts := answers (3 + fillersBefore c + 3) s) (k := 3 + fillersBefore c) (m := 3)
    (r := 0) (by simp)
  rw [runPhased, (transferRequest_clocks request c).run (by simp [toShiftDR]), hlength]
  simpa [levels, ackAnswers] using hwindow

/-- The answers to the request bits are among those to a longer run. -/
theorem ackAnswers_eq (c : ChainPosition) (s : State) {n : Nat} (h : 3 + fillersBefore c + 3 ≤ n) :
    ((answers n s).drop (3 + fillersBefore c)).take 3 = ackAnswers c s := by
  rw [ackAnswers, answers, answers, ← oracleAnswers_take _ n _ _ h, List.drop_take, Nat.add_sub_cancel_left,
    List.take_take, Nat.min_self]

/-- What a transfer does, as one run: `RDATA` gets the samples after the acknowledge (R192 to R199). -/
theorem jtagTransfer_eq {request : Byte} {checkAck : Bool} {s : State} {abort : Bool}
    (h : abortsEarly checkAck (transferAck s) = abort) {r : State × List Level}
    (hrun : runPhased (transferRequest request s.operands.cfg.chain ++
      transferRest abort request s.operands.data (idleCount s) s.operands.cfg.chain) s = r) :
    jtagTransfer request checkAck s =
      writeAck (transferAck s)
        (if !abort && reqRnW request then writeRdata (wordOfBits 32 (r.2.drop 3)) r.1 else r.1) := by
  have hack := runPhased_transferRequest request s.operands.cfg.chain s
  have hlength := ackAnswers_length s.operands.cfg.chain s
  subst h hrun
  simp only [runPhased, Phased.actions_append, runActions_append] at hack ⊢
  simp only [jtagTransfer, runPhased, hack, ← hlength, List.drop_left]
  rfl

/-- A transfer ends early exactly where the acknowledge is checked and is not Ok (R195). -/
theorem abortsEarly_eq (checkAck : Bool) (ack : BitVec 3) :
    abortsEarly checkAck ack = (checkAck && decide (ack ≠ 0b001#3)) := by
  unfold abortsEarly jtagAck
  split <;> simp_all

/-- A transfer has its data phase exactly where the acknowledge is Ok or not checked (R192). -/
theorem abortsEarly_eq_false_iff {checkAck : Bool} {ack : BitVec 3} :
    abortsEarly checkAck ack = false ↔ (checkAck = true → ack = 0b001#3) := by
  simp [abortsEarly_eq]

/-- The acknowledge as the statements write it, out of the answers to the whole transfer. -/
theorem transferAck_eq (s : State) {n : Nat} (h : 3 + fillersBefore s.operands.cfg.chain + 3 ≤ n) :
    jtagAckRemap (wordOfBits 3 (((answers n s).drop (3 + fillersBefore s.operands.cfg.chain)).take 3)) =
      transferAck s := by
  rw [ackAnswers_eq _ _ h, transferAck]

/-! ### The exact next states -/

/-- The TMS string of a scan, with the return to Run-Test/Idle written apart from the last shift cycle. -/
theorem scanTms_succ (path : List Level) (k idle : Nat) :
    scanTms path (k + 1) idle = path ++ levels k false ++ [true] ++ [true, false] ++ levels idle false := by
  simp [scanTms]

/-- Settles O42: the run of an aborted transfer, without a write of `RDATA`. -/
theorem jtagTransferAbortsEarly : Obligations.JtagTransferAbortsEarly := by
  intro s request hrun idx idle n ack hack
  have hsamples : ack = transferAck s := transferAck_eq s (n := n) (by simp only [n, idx, fillersBefore]; omega)
  have habort : abortsEarly true (transferAck s) = true := by
    rw [abortsEarly_eq, ← hsamples]
    simpa using hack
  have hscan := (abortedTransfer_parks request s.operands.data idle s.operands.cfg.chain).run (eq_of_beq hrun.mode)
    (n := n) (by simp only [n, idx, fillersBefore]; omega) (scanTms_succ _ _ _) (resolve_drScan _ (by simp) _ _)
  refine exec_of_canRun hrun ((jtagTransfer_eq habort hscan).trans ?_)
  rw [hsamples]
  rfl

/-- Settles O43: the run of a transfer that reads; the samples after the acknowledge are `RDATA`. -/
theorem jtagTransferReads : Obligations.JtagTransferReads := by
  intro s request checkAck hrun hread idx after idle n ack hack
  have hsamples : ack = transferAck s := transferAck_eq s (n := n) (by simp only [n, idx, fillersBefore]; omega)
  have habort : abortsEarly checkAck (transferAck s) = false :=
    abortsEarly_eq_false_iff.mpr fun hcheck => hsamples.symm.trans (hack hcheck)
  have hscan := (readTransfer_parks hread s.operands.data idle s.operands.cfg.chain).run (eq_of_beq hrun.mode)
    (n := n) (by simp only [n, idx, after, fillersBefore, fillersAfter]; omega) (scanTms_succ _ _ _)
    (resolve_drScan _ (by simp) _ _)
  have hdata : (((answers n s).drop (3 + idx)).take 35).drop 3 = ((answers n s).drop (3 + idx + 3)).take 32 := by
    rw [List.drop_take, List.drop_drop]
  refine exec_of_canRun hrun ((jtagTransfer_eq habort hscan).trans ?_)
  rw [if_pos (show (!false && reqRnW request) = true from hread), hsamples, ← hdata]
  rfl

/-- The levels of a transfer that writes `v`: the fillers and the tail repeat its last bit (R197). -/
theorem resolve_writeScan (d a b c : Level) (v : Word) (m n : Nat) :
    resolve d (List.replicate m none ++ drivenBits ([a, b, c] ++ wordBits v 32) ++ List.replicate n none) =
      levels m d ++ [a, b, c] ++ wordBits v 32 ++ levels n (v.getLsbD 31) := by
  rw [resolve_drScan d (by simp), ← List.append_assoc]
  rfl

/-- Settles O44: the run of a transfer that writes, without a write of `RDATA`. -/
theorem jtagTransferWrites : Obligations.JtagTransferWrites := by
  intro s request checkAck hrun hwrite idx after idle n ack hack
  have hsamples : ack = transferAck s := transferAck_eq s (n := n) (by simp only [n, idx, fillersBefore]; omega)
  have habort : abortsEarly checkAck (transferAck s) = false :=
    abortsEarly_eq_false_iff.mpr fun hcheck => hsamples.symm.trans (hack hcheck)
  have hscan := (writeTransfer_parks hwrite s.operands.data idle s.operands.cfg.chain).run (eq_of_beq hrun.mode)
    (n := n) (by simp only [n, idx, after, fillersBefore, fillersAfter]; omega) (scanTms_succ _ _ _)
    (resolve_writeScan _ _ _ _ _ _ _)
  refine exec_of_canRun hrun ((jtagTransfer_eq habort hscan).trans ?_)
  rw [if_neg (show ¬(!false && reqRnW request) = true from ne_true_of_eq_false hwrite), hsamples]
  rfl

/-! ### The abort write -/

/-- The cycles of an abort write are those of a transfer of request 0 that is not aborted (R200). -/
theorem writeAbortPhases_eq (data : Word) (idle : Nat) (c : ChainPosition) :
    writeAbortPhases data idle c = transferRequest 0 c ++ transferRest false 0 data idle c :=
  List.append_assoc _ _ _

/-- Settles O45: both are the same run, and a transfer writes `ACK` besides. -/
theorem jtagWriteAbortIsAZeroTransfer : Obligations.JtagWriteAbortIsAZeroTransfer := by
  intro s hrun
  have htransfer : completed (.jtagTransfer 0 false) s = writeAck (transferAck s) (jtagWriteAbort s) := by
    rw [jtagWriteAbort, writeAbortPhases_eq]
    exact jtagTransfer_eq rfl rfl
  have hcanRun : CanRun (.jtagTransfer 0 false) s := ⟨hrun.mode, hrun.operands, hrun.engine⟩
  refine ⟨_, exec_of_canRun hcanRun htransfer, exec_of_canRun hrun ?_⟩
  have hack : (jtagWriteAbort s).ack = s.ack := runActions_ack _ _
  have hwritten : (jtagWriteAbort s).written = s.written := runActions_written _ _
  rw [← hack, ← hwritten]
  rfl

end Sys2Proof.Machine
end

section
/-! What a scan is on the wire (42_jtag_tap.md R170, R173, R202): the events of a run of TCK pulses, counted, and the
TMS string of a scan in the TAP diagram; then every composite operation as one scan. -/

namespace Sys2Proof.Machine

/-! ### The events of a run of TCK pulses -/

/-- Some events are TCK pulses with these TMS levels, in order, and where `park` is set one write of TDI after them. -/
structure ScanEvents (tms : List Level) (park : Bool) (evs : List Event) : Prop where
  tms_levels : tmsLevels evs = tms
  clocks : (clockEvents evs).length = tms.length
  directions : directionEvents evs = []
  enables : enableEvents evs = []
  latches : levelEvents evs = if park then [.lvl .tdi true] else []
  last : park = true → evs.getLast? = some (.lvl .tdi true)

/-- The events of a run of TCK pulses (R13, R141). -/
theorem jtagRun_scanEvents {tms tdi ts : List Level} {cap : List Bool} (htdi : tdi.length = tms.length)
    (hts : ts.length = tms.length) (hcap : cap.length = tms.length) :
    ScanEvents tms false (jtagRun tms tdi ts cap) := by
  induction tms generalizing tdi ts cap with
  | nil => exact ⟨rfl, rfl, rfl, rfl, rfl, nofun⟩
  | cons m tms ih =>
    obtain ⟨d, tdi, rfl⟩ := List.exists_cons_of_length_eq_add_one htdi
    obtain ⟨t, ts, rfl⟩ := List.exists_cons_of_length_eq_add_one hts
    obtain ⟨c, cap, rfl⟩ := List.exists_cons_of_length_eq_add_one hcap
    simp only [List.length_cons, Nat.add_right_cancel_iff] at htdi hts hcap
    obtain ⟨htms, hclocks, hdirs, hens, hlvls, -⟩ := ih htdi hts hcap
    exact ⟨congrArg (m :: ·) htms, congrArg (· + 1) hclocks, hdirs, hens, hlvls, nofun⟩

/-- A park adds one write of TDI and nothing else (R179). -/
theorem ScanEvents.parked {tms : List Level} {evs : List Event} (h : ScanEvents tms false evs) :
    ScanEvents tms true (evs ++ [.lvl .tdi true]) := by
  obtain ⟨htms, hclocks, hdirs, hens, hlvls, -⟩ := h
  simp only [tmsLevels, clockEvents, directionEvents, enableEvents, levelEvents] at htms hclocks hdirs hens hlvls
  constructor <;>
    simp_all [tmsLevels, clockEvents, directionEvents, enableEvents, levelEvents]

/-- The events of a run of TCK pulses by its strings. -/
theorem Clocks.events {as : List Action} {tms : List Level} {tdi : List (Option Level)} {cap : List Bool}
    (h : Clocks as tms tdi cap) (s : State) :
    ∃ evs, (runActions as s).1.trace = s.trace ++ evs ∧ ScanEvents tms false evs := by
  by_cases hne : tms = []
  · subst hne
    obtain ⟨ps, rfl, hps, -, -⟩ := h
    obtain rfl : ps = [] := by simpa using hps.symm
    exact ⟨[], by simp, ⟨rfl, rfl, rfl, rfl, rfl, nofun⟩⟩
  · rw [h.run hne]
    exact ⟨_, rfl, jtagRun_scanEvents (by simpa using h.tdi_length) (by simp) h.cap_length⟩

/-- The events of a scan with its park. -/
theorem ClocksThenParks.events {as : List Action} {tms : List Level} {tdi : List (Option Level)} {cap : List Bool}
    (h : ClocksThenParks as tms tdi cap) (s : State) :
    ∃ evs, (runActions as s).1.trace = s.trace ++ evs ∧ ScanEvents tms true evs := by
  obtain ⟨cycles, rfl, hcycles⟩ := h
  obtain ⟨evs, htrace, hevs⟩ := hcycles.events s
  refine ⟨_, ?_, hevs.parked⟩
  rw [runActions_append, runActions_cons, runActions_nil, runAction_trace, htrace, List.append_assoc]
  rfl

/-! ### The composite operations -/

/-- The TMS path of a composite operation to its shift state (R180, R183, R188, R192). -/
def scanPath (i : Instr) (s : State) : List Level :=
  match i with
  | .jtagReadIdcode => idcodePath s.params.idcodeFromReset
  | .jtagIr => toShiftIR
  | _ => toShiftDR

/-- How many places a composite operation shifts that ended in `t`: its fillers and its payload, and of a transfer that
ended early the exit cycle in place of the data (R174, R184, R195). -/
def scanPlaces (i : Instr) (s t : State) : Nat :=
  let c := s.operands.cfg.chain
  match i with
  | .jtagReadIdcode => fillersBefore c + 32
  | .jtagIr => c.irBeforeBits.toNat + irLength s + c.irAfterBits.toNat
  | .jtagDr => fillersBefore c + countOperand s + fillersAfter c
  | .jtagTransfer _ checkAck => transferPlaces (checkAck && decide (t.ack ≠ some 0b001#3)) c
  | _ => transferPlaces false c

/-- How many idle cycles a composite operation has after its update (R198). -/
def scanIdle (i : Instr) (s : State) : Nat :=
  match i with
  | .jtagTransfer _ _ => idleCount s
  | .jtagWriteAbort => idleCount s
  | _ => 0

/-- The acknowledge a transfer ends with, and the trace of its run. -/
theorem jtagTransfer_ack_trace (request : Byte) (checkAck : Bool) (s : State) :
    (jtagTransfer request checkAck s).ack = some (transferAck s) ∧
      (jtagTransfer request checkAck s).trace =
        (runPhased (transferRequest request s.operands.cfg.chain ++
          transferRest (abortsEarly checkAck (transferAck s)) request s.operands.data (idleCount s)
            s.operands.cfg.chain) s).1.trace := by
  rw [jtagTransfer_eq rfl rfl]
  refine ⟨rfl, ?_⟩
  split <;> rfl

/-- Every composite operation that completes shifts at least one place, and its events are those of its one scan; only
the IDCODE read does not park (R180 to R200). -/
theorem exec_composite_scanEvents {i : Instr} {s t : State} (hi : isCompositeJtag i = true) (h : exec i s = .next t) :
    1 ≤ scanPlaces i s t ∧ ∃ evs, t.trace = s.trace ++ evs ∧
      ScanEvents (scanTms (scanPath i s) (scanPlaces i s t) (scanIdle i s)) (i != .jtagReadIdcode) evs := by
  obtain ⟨hchecks, rfl⟩ := exec_next h
  have hlegal := ((refusals_none_iff i s).mp hchecks).2
  cases i with
  | jtagReadIdcode => exact ⟨Nat.le_add_left_of_le (by decide), (idcodePhases_clocks _ _).events s⟩
  | jtagIr =>
    obtain ⟨len, -, hlength, hpos⟩ := irLength_of_legal hlegal
    rw [← hlength] at hpos
    exact ⟨by simp only [scanPlaces]; omega, (irPhases_parks _ hpos _).events s⟩
  | jtagDr =>
    have hpos : 1 ≤ countOperand s := one_le_count_of_legal hlegal
    have hbits : 1 ≤ (txBits (countOperand s) s).length := by rwa [txBits_length]
    have hevents := (drPhases_parks hbits s.operands.cfg.chain).events s
    rw [txBits_length] at hevents
    exact ⟨by simp only [scanPlaces]; omega, hevents⟩
  | jtagTransfer request checkAck =>
    obtain ⟨hack, htrace⟩ := jtagTransfer_ack_trace request checkAck s
    have habort : (checkAck && decide ((jtagTransfer request checkAck s).ack ≠ some 0b001#3)) =
        abortsEarly checkAck (transferAck s) := by
      rw [hack, abortsEarly_eq]
      simp
    have hplaces : scanPlaces (.jtagTransfer request checkAck) s (jtagTransfer request checkAck s) =
        transferPlaces (abortsEarly checkAck (transferAck s)) s.operands.cfg.chain :=
      congrArg (transferPlaces · _) habort
    rw [completed, hplaces, htrace]
    exact ⟨by unfold transferPlaces; split <;> omega, (transfer_parks _ _ _ _ _).events s⟩
  | jtagWriteAbort =>
    have hparks := transfer_parks false 0 s.operands.data (idleCount s) s.operands.cfg.chain
    rw [← writeAbortPhases_eq] at hparks
    exact ⟨by simp only [scanPlaces, transferPlaces, Bool.false_eq_true, if_false]; omega, hparks.events s⟩
  | _ => cases hi

/-- What is known of the events an operation added to the trace is known of any list that is all it added. -/
theorem events_of_trace {P : List Event → Prop} {s t : State} {evs : List Event}
    (h : ∃ added, t.trace = s.trace ++ added ∧ P added) (htrace : t.trace = s.trace ++ evs) : P evs := by
  obtain ⟨added, hadded, hP⟩ := h
  obtain rfl : added = evs := List.append_cancel_left (hadded.symm.trans htrace)
  exact hP

/-! ### The scan in the TAP diagram -/

theorem tapAfter_append (tap : TapState) (xs ys : List Level) :
    tapAfter tap (xs ++ ys) = tapAfter (tapAfter tap xs) ys := List.foldl_append

/-- A state that TMS = 0 does not leave is kept by any number of such cycles. -/
theorem tapAfter_levels {tap : TapState} (h : delta tap false = tap) (n : Nat) :
    tapAfter tap (levels n false) = tap := by
  induction n with
  | zero => rfl
  | succ n ih => rwa [levels, List.replicate_succ, tapAfter, List.foldl_cons, h]

theorem cyclesStartingIn_append (place tap : TapState) (xs ys : List Level) :
    cyclesStartingIn place tap (xs ++ ys) =
      cyclesStartingIn place tap xs + cyclesStartingIn place (tapAfter tap xs) ys := by
  induction xs generalizing tap with
  | nil => simp [cyclesStartingIn, tapAfter]
  | cons x xs ih => simp [cyclesStartingIn, ih, tapAfter, Nat.add_assoc]

theorem cyclesStartingIn_levels {tap : TapState} (h : delta tap false = tap) (place : TapState) (n : Nat) :
    cyclesStartingIn place tap (levels n false) = if tap = place then n else 0 := by
  induction n with
  | zero => simp [levels, cyclesStartingIn]
  | succ n ih =>
    rw [levels, List.replicate_succ, cyclesStartingIn, h, ← levels, ih]
    split <;> omega

/-- The two states whose cycles shift a scan register (R170). -/
def TapState.shifts (tap : TapState) : Bool := tap == .shiftDR || tap == .shiftIR

theorem TapState.shifts_iff {tap : TapState} : tap.shifts = true ↔ tap = .shiftDR ∨ tap = .shiftIR := by
  simp [TapState.shifts]

/-- A scan ends in Run-Test/Idle where its path ends in a shift state (R173). -/
theorem tapAfter_scanTms {tap : TapState} {path : List Level} (hpath : (tapAfter tap path).shifts = true)
    (places idle : Nat) : tapAfter tap (scanTms path places idle) = .runTestIdle := by
  have hstay (shift : TapState) (h : delta shift false = shift)
      (hback : tapAfter shift [true, true, false] = .runTestIdle) (hp : tapAfter tap path = shift) :
      tapAfter tap (scanTms path places idle) = .runTestIdle := by
    rw [scanTms, tapAfter_append, tapAfter_append, tapAfter_append, hp, tapAfter_levels h, hback,
      tapAfter_levels rfl]
  rcases TapState.shifts_iff.mp hpath with hp | hp
  · exact hstay .shiftDR rfl rfl hp
  · exact hstay .shiftIR rfl rfl hp

/-- A scan shifts its places in the shift state its path ends in, and no place of the other register, where the path
itself shifts none (R170). -/
theorem cyclesStartingIn_scanTms {place shift tap : TapState} {path : List Level} (hplace : place.shifts = true)
    (hshift : shift.shifts = true) (hpath : tapAfter tap path = shift) (hquiet : cyclesStartingIn place tap path = 0)
    {places : Nat} (hplaces : 1 ≤ places) (idle : Nat) :
    cyclesStartingIn place tap (scanTms path places idle) = if shift = place then places else 0 := by
  have hidle : TapState.runTestIdle ≠ place := by rintro rfl; cases hplace
  have hstay : delta shift false = shift := by
    rcases TapState.shifts_iff.mp hshift with rfl | rfl <;> rfl
  have hback : tapAfter shift [true, true, false] = .runTestIdle := by
    rcases TapState.shifts_iff.mp hshift with rfl | rfl <;> rfl
  have hexit : cyclesStartingIn place shift [true, true, false] = if shift = place then 1 else 0 := by
    rcases TapState.shifts_iff.mp hshift with rfl | rfl <;> rcases TapState.shifts_iff.mp hplace with rfl | rfl <;> rfl
  simp only [scanTms, cyclesStartingIn_append, tapAfter_append, hpath, hquiet, tapAfter_levels hstay,
    cyclesStartingIn_levels hstay, hexit, hback, cyclesStartingIn_levels (tap := .runTestIdle) rfl, if_neg hidle]
  split <;> omega

end Sys2Proof.Machine
end

section
/-! The TAP diagram and the event counts of the composite operations (42_jtag_tap.md R170, R173, R174, R202), each from
`exec_composite_scanEvents`. -/

namespace Sys2Proof.Machine

/-- The path of a composite operation ends in Shift-IR for an instruction shift and in Shift-DR else, and no cycle of it
starts in a shift state (R170, R171). -/
theorem scanPath_reaches (i : Instr) (s : State) :
    tapAfter .runTestIdle (scanPath i s) = (if i = .jtagIr then .shiftIR else .shiftDR) ∧
      cyclesStartingIn .shiftDR .runTestIdle (scanPath i s) = 0 ∧
      cyclesStartingIn .shiftIR .runTestIdle (scanPath i s) = 0 := by
  cases i with
  | jtagReadIdcode => rw [scanPath]; cases s.params.idcodeFromReset <;> decide
  | _ => exact ⟨rfl, rfl, rfl⟩

/-- The reset preamble brings the TAP to Run-Test/Idle from every state (R171, R173). -/
theorem tapAfter_idcodePath_true (tap : TapState) : tapAfter tap (idcodePath true) = .shiftDR := by
  cases tap <;> rfl

/-- Settles O46: the one scan of the operation ends in Run-Test/Idle, since its path ends in a shift state. -/
theorem compositeOperationsEndInIdle : Obligations.CompositeOperationsEndInIdle := by
  intro i s t hi h
  obtain ⟨-, evs, htrace, hevs⟩ := exec_composite_scanEvents hi h
  refine ⟨evs, htrace, ?_, ?_⟩ <;> rw [hevs.tms_levels]
  · apply tapAfter_scanTms
    rw [(scanPath_reaches i s).1]
    split <;> rfl
  · rintro rfl hreset tap
    apply tapAfter_scanTms
    rw [scanPath, hreset, tapAfter_idcodePath_true]
    rfl

/-- The places a composite operation shifts: all of them in the register it is for, none in the other (R170). -/
theorem exec_composite_shifts {i : Instr} {s t : State} {evs : List Event} (hi : isCompositeJtag i = true)
    (h : exec i s = .next t) (htrace : t.trace = s.trace ++ evs) :
    cyclesStartingIn .shiftDR .runTestIdle (tmsLevels evs) = (if i = .jtagIr then 0 else scanPlaces i s t) ∧
      cyclesStartingIn .shiftIR .runTestIdle (tmsLevels evs) = (if i = .jtagIr then scanPlaces i s t else 0) := by
  obtain ⟨hplaces, hadded⟩ := exec_composite_scanEvents hi h
  have hevs := events_of_trace hadded htrace
  obtain ⟨hpath, hdr, hir⟩ := scanPath_reaches i s
  have hshift : (if i = .jtagIr then TapState.shiftIR else .shiftDR).shifts = true := by split <;> rfl
  rw [hevs.tms_levels, cyclesStartingIn_scanTms rfl hshift hpath hdr hplaces,
    cyclesStartingIn_scanTms rfl hshift hpath hir hplaces]
  by_cases hi : i = .jtagIr <;> simp [hi]

/-- Settles O47: `exec_composite_shifts`, with the places of each operation. -/
theorem scanRegistersShiftTheRightLength : Obligations.ScanRegistersShiftTheRightLength := by
  intro s t evs htrace c idx after inDR inIR
  refine ⟨fun h => exec_composite_shifts rfl h htrace, fun h => ?_, fun h => exec_composite_shifts rfl h htrace,
    fun h => ?_, fun request h => ?_, fun request h => ?_⟩
  · obtain ⟨hdr, hir⟩ := exec_composite_shifts rfl h htrace
    obtain ⟨len, hlen, hlength, -⟩ := irLength_of_legal ((refusals_none_iff _ s).mp (exec_next h).1).2
    exact ⟨hdr, len, hlen, hlength ▸ hir⟩
  · exact exec_composite_shifts rfl h htrace
  · exact exec_composite_shifts rfl h htrace
  · obtain ⟨hdr, hir⟩ := exec_composite_shifts rfl h htrace
    refine ⟨hdr.trans ?_, hir⟩
    by_cases hack : t.ack = some 0b001#3 <;> simp [scanPlaces, transferPlaces, hack] <;> rfl

/-! ### The event counts -/

/-- The events of `JTAG_SEQUENCE` are TCK pulses (R155). -/
theorem exec_jtagSequence_scanEvents {info : Byte} {s t : State} (h : exec (.jtagSequence info) s = .next t) :
    ∃ evs, t.trace = s.trace ++ evs ∧ ScanEvents (levels (seqCount info) (infoTms info)) false evs := by
  obtain ⟨hchecks, rfl⟩ := exec_next h
  have hm : s.mode = .jtag := eq_of_beq (performedIn_of_refusals hchecks)
  have hn : seqCount info ≠ 0 := by have := (seqCount_bounds info).1; omega
  have hrun := clockSequence_jtag hm hn (infoTms info) (infoCapture info) (out := some (txBits _ s)) rfl
    (txBits_length _ s)
  exact ⟨_, congrArg State.trace hrun,
    jtagRun_scanEvents (by simp) (by simp) (by simp)⟩

/-- The events of `SWJ_SEQUENCE` in JTAG mode are TCK pulses with the bits of `TXBUF` on TMS (R176, R270). -/
theorem exec_swjSequence_scanEvents {s t : State} (h : exec .swjSequence s = .next t) (hm : s.mode = .jtag) :
    ∃ evs, t.trace = s.trace ++ evs ∧ ScanEvents (txBits (countOperand s) s) false evs := by
  obtain ⟨-, rfl⟩ := exec_next h
  have hactions : swjActions s.mode (txBits (countOperand s) s) = walk (txBits (countOperand s) s) := by
    rw [hm, swjActions]
    split
    · next hnone => rw [hnone]; rfl
    · rfl
  rw [completed, hactions]
  exact (clocks_walk _).events s

/-- How many cycles a composite operation clocks: its path, its places, the two of the tail and the idle cycles
(R202). -/
theorem exec_composite_clocks {i : Instr} {s t : State} {evs : List Event} (hi : isCompositeJtag i = true)
    (h : exec i s = .next t) (htrace : t.trace = s.trace ++ evs) :
    (clockEvents evs).length = (scanPath i s).length + scanPlaces i s t + (2 + scanIdle i s) := by
  obtain ⟨hplaces, hadded⟩ := exec_composite_scanEvents hi h
  have hevs := events_of_trace hadded htrace
  rw [hevs.clocks, scanTms_length _ hplaces]

/-- Settles O48: the events of the one scan of each operation, and its cycles counted. -/
theorem jtagEventCounts : Obligations.JtagEventCounts := by
  intro i s t evs h htrace c idx after idle
  have hcomposite (hi : isCompositeJtag i = true) :=
    events_of_trace (exec_composite_scanEvents hi h).2 htrace
  have hswj (hi : i = .swjSequence) (hm : s.mode = .jtag) :=
    events_of_trace (exec_swjSequence_scanEvents (hi ▸ h) hm) htrace
  refine ⟨?_, ?_, ?_, ?_, ?_, ?_, ?_, ?_⟩
  · rintro (hi | ⟨info, rfl⟩ | ⟨hi, hm⟩)
    · exact ⟨(hcomposite hi).directions, (hcomposite hi).enables⟩
    · have hevs := events_of_trace (exec_jtagSequence_scanEvents h) htrace
      exact ⟨hevs.directions, hevs.enables⟩
    · exact ⟨(hswj hi hm).directions, (hswj hi hm).enables⟩
  · rintro rfl
    refine ⟨(hcomposite rfl).latches, (exec_composite_clocks rfl h htrace).trans ?_⟩
    simp only [scanPath, scanPlaces, scanIdle, fillersBefore, idcodePath, idx, c]
    cases s.params.idcodeFromReset <;> simp [resetPreamble, toShiftDR] <;> omega
  · intro hi hne
    have hpark : (i != .jtagReadIdcode) = true := bne_iff_ne.mpr hne
    have hevs := hcomposite hi
    rw [hpark] at hevs
    exact ⟨hevs.latches, hevs.last rfl⟩
  · rintro rfl
    obtain ⟨len, hlen, hlength, -⟩ := irLength_of_legal ((refusals_none_iff _ s).mp (exec_next h).1).2
    refine ⟨len, hlen, (exec_composite_clocks rfl h htrace).trans ?_⟩
    simp only [scanPath, scanPlaces, scanIdle, toShiftIR, hlength, List.length_cons, List.length_nil, c]
    omega
  · rintro rfl
    refine (exec_composite_clocks rfl h htrace).trans ?_
    simp only [scanPath, scanPlaces, scanIdle, toShiftDR, countOperand, fillersBefore, fillersAfter, List.length_cons,
      List.length_nil, after, idx, c]
    omega
  · rintro rfl
    refine (exec_composite_clocks rfl h htrace).trans ?_
    simp only [scanPath, scanPlaces, scanIdle, toShiftDR, transferPlaces, idleCount, fillersBefore, fillersAfter,
      List.length_cons, List.length_nil, Bool.false_eq_true, if_false, after, idx, idle, c]
    omega
  · rintro request checkAck rfl
    refine (exec_composite_clocks rfl h htrace).trans ?_
    simp only [scanPath, scanPlaces, scanIdle, toShiftDR, transferPlaces, idleCount, fillersBefore, fillersAfter,
      List.length_cons, List.length_nil, Bool.and_eq_true, decide_eq_true_eq, after, idx, idle, c]
    split <;> omega
  · intro hi hm
    exact ⟨(hswj hi hm).latches, (hswj hi hm).clocks.trans (txBits_length _ _)⟩

end Sys2Proof.Machine
end

section
/-! The SWD transfer as one run (43_swd.md R228 to R241): the request half, what follows each acknowledge in one normal
form, and the state after both with the results it reports. -/

namespace Sys2Proof.Machine

/-! ### The oracle's answers -/

/-- The answers to a longer run begin with those to a shorter one. -/
theorem answers_take {m n : Nat} (h : m ≤ n) (s : State) : (answers n s).take m = answers m s :=
  oracleAnswers_take m n s.target s.samples h

/-- A window of the answers does not depend on the length of the run. -/
theorem answers_window {k m n : Nat} (h : k + m ≤ n) (s : State) :
    ((answers n s).drop k).take m = (answers (k + m) s).drop k := by
  rw [← answers_take h, List.drop_take, Nat.add_sub_cancel_left]

/-- The answers after the first `m` are those to a state that has taken `m`. -/
theorem answers_drop (m n : Nat) {s t : State} (htarget : t.target = s.target.drop m)
    (hsamples : t.samples = s.samples + m) : (answers (m + n) s).drop m = answers n t := by
  rw [answers, answers, oracleAnswers_drop, htarget, hsamples]

/-! ### Runs of SWCLK pulses -/

theorem runActions_drivenCycles (bits : List Level) (s : State) :
    runActions (drivenCycles bits) s = (afterDriven bits s, []) :=
  runActions_driven bits s

theorem runActions_releasedCycles (n : Nat) (s : State) :
    runActions (releasedCycles n) s = (afterReleased n false s, []) :=
  runActions_released n false s

theorem runActions_recordedCycles (n : Nat) (s : State) :
    runActions (recordedCycles n) s = (afterReleased n true s, answers n s) :=
  runActions_released n true s

/-! ### The request half -/

/-- The events of the request half, with the samples `a` of the turnaround and the acknowledge (R229 to R231). -/
def swdRequestEvents (request : Byte) (turn : Nat) (a : List Level) : List Event :=
  [.dir .swdioTms true] ++ swdDriven (packetBits request) ++ [.dir .swdioTms false] ++
    swdReleased (a.take turn) false ++ swdReleased ((a.drop turn).take 3) true

/-- The state after the request half of a transfer: SWDIO released, its latch at the last bit of the packet. -/
def afterSwdRequest (request : Byte) (turn : Nat) (s : State) : State :=
  { s with
    oe := { s.oe with swdioTms := false }
    out := { s.out with swclkTck := true, swdioTms := true }
    cont := s.cont.map fun c => { c with lastDrivenBit := lastLevel true ((answers (turn + 3) s).drop turn) }
    target := s.target.drop (turn + 3)
    samples := s.samples + (turn + 3)
    trace := s.trace ++ swdRequestEvents request turn (answers (turn + 3) s) }

/-- The request half records the three levels of the acknowledge (R229 to R231). -/
theorem runPhased_swdRequest {s : State} (hm : s.mode = .swd) (request : Byte) (turn : Nat) :
    runPhased (swdRequestPhases request turn) s =
      (afterSwdRequest request turn s, (answers (turn + 3) s).drop turn) := by
  have hpacket : packetBits request ≠ [] := List.cons_ne_nil _ _
  have hlast : (packetBits request).getLast?.getD true = true := rfl
  simp [runPhased, swdRequestPhases, swdDrive, swdRelease, runActions_cons, runActions_append, runAction,
    runActions_drivenCycles, runActions_releasedCycles, runActions_recordedCycles, lineDir_swdioTms_output,
    lineDir_swdioTms_input, afterDriven_of_ne_nil hpacket, hlast, afterReleased, afterSwdRequest,
    swdRequestEvents, answers, oracleAnswers_add, List.take_of_length_le, hm, Function.comp_def, Nat.add_assoc]

/-! ### What follows the acknowledge -/

/-- The cycles after the acknowledge, counted: recorded samples, released cycles, and the levels driven once SWDIO is an
output again. -/
structure SwdEnding where
  recorded : Nat
  released : Nat
  driven : List Level

/-- The cycles of an ending, closed by the park (R241). -/
def SwdEnding.actions (e : SwdEnding) : List Action :=
  recordedCycles e.recorded ++ releasedCycles e.released ++ [swdDrive] ++ drivenCycles e.driven ++
    [.set .swdioTms true]

/-- What the target's answers to an ending put on the wire. -/
def SwdEnding.events (e : SwdEnding) (ts : List Level) : List Event :=
  swdReleased (ts.take e.recorded) true ++ swdReleased (ts.drop e.recorded) false ++ [.dir .swdioTms true] ++
    swdDriven e.driven ++ [.lvl .swdioTms true]

/-- The ending each acknowledge leads to (R232 to R235, R238 to R240). -/
def swdEnding (ack : SwdAck) (rnw d : Bool) (data : Word) (turn idle : Nat) : SwdEnding :=
  match ack with
  | .ok =>
    if rnw then ⟨33, turn, levels idle false⟩ else ⟨0, turn, writeDataBits data ++ levels idle false⟩
  | .wait => ⟨0, turn + (if d && rnw then 33 else 0), levels (if d && !rnw then 33 else 0) false⟩
  | .fault => ⟨0, turn + (if d && rnw then 33 else 0), levels (if d && !rnw then 33 else 0) false⟩
  | .protocolError => ⟨0, turn + 33, []⟩

theorem swdRecoveryPhases_actions (rnw d : Bool) (turn : Nat) :
    (swdRecoveryPhases rnw d turn).actions =
      SwdEnding.actions
        ⟨0, turn + (if d && rnw then 33 else 0), levels (if d && !rnw then 33 else 0) false⟩ := by
  cases rnw <;> cases d <;>
    simp [swdRecoveryPhases, swdPark, SwdEnding.actions, recordedCycles, drivenCycles, levels]

/-- Every acknowledge is followed by an ending: recorded cycles, released cycles, `SwdOut()`, driven cycles, park. -/
theorem swdRestPhases_actions (ack : SwdAck) (rnw d : Bool) (data : Word) (turn idle : Nat) :
    (swdRestPhases ack rnw d data turn idle).actions = (swdEnding ack rnw d data turn idle).actions := by
  cases ack with
  | ok =>
    cases rnw <;>
      simp [swdRestPhases, swdReadPhases, swdWritePhases, swdIdle, swdPark, swdEnding, SwdEnding.actions,
        recordedCycles, drivenCycles, levels]
  | wait => exact swdRecoveryPhases_actions rnw d turn
  | fault => exact swdRecoveryPhases_actions rnw d turn
  | protocolError =>
    simp [swdRestPhases, swdResyncPhases, swdPark, swdEnding, SwdEnding.actions, recordedCycles, drivenCycles]

/-- A run that leaves SWDIO an output is parked by one latch write: whatever the latch and the continuation bit were,
both are 1 (R241). -/
theorem lineSet_swdioTms_park {s : State} (hm : s.mode = .swd) (ho : s.oe.swdioTms = true) :
    lineSet .swdioTms true s =
      { s with
        out := { s.out with swdioTms := true }
        cont := s.cont.map fun c => { c with lastDrivenBit := true }
        trace := s.trace ++ [.lvl .swdioTms true] } := by
  simp [lineSet_swdioTms, hm, ho]

/-- Everything an ending does where the clock is high already. -/
theorem runActions_swdEnding (e : SwdEnding) {s : State} (hm : s.mode = .swd) (hclk : s.out.swclkTck = true) :
    runActions e.actions s =
      ({ s with
          oe := { s.oe with swdioTms := true }
          out := { s.out with swdioTms := true }
          cont := s.cont.map fun c => { c with lastDrivenBit := true }
          target := s.target.drop (e.recorded + e.released)
          samples := s.samples + (e.recorded + e.released)
          trace := s.trace ++ e.events (answers (e.recorded + e.released) s) },
        answers e.recorded s) := by
  simp [SwdEnding.actions, SwdEnding.events, swdDrive, runActions_cons, runActions_append, runAction,
    runActions_drivenCycles, runActions_releasedCycles, runActions_recordedCycles, lineDir_swdioTms_output,
    lineSet_swdioTms_park, afterDriven, afterReleased, answers, oracleAnswers_add, hm, hclk, Function.comp_def,
    Nat.add_assoc]

/-! ### The whole transfer -/

/-- The acknowledge as sampled: the three levels the target answers after the turnaround (R231). -/
def swdSampledAck (s : State) : BitVec 3 := wordOfBits 3 ((answers (turnCycles s + 3) s).drop (turnCycles s))

/-- How a transfer goes on in a state. -/
def swdEndingOf (request : Byte) (s : State) : SwdEnding :=
  swdEnding (swdAck (swdSampledAck s)) (reqRnW request) s.operands.cfg.swd.dataPhaseOnError s.operands.data
    (turnCycles s) (idleCount s)

/-- The events of a transfer whose samples are `a`. -/
def swdTransferEvents (request : Byte) (turn : Nat) (e : SwdEnding) (a : List Level) : List Event :=
  swdRequestEvents request turn a ++ e.events (a.drop (turn + 3))

/-- The wire after a transfer that took `n` samples and emitted `evs`. -/
def afterSwdTransfer (n : Nat) (evs : List Event) (s : State) : State :=
  { s with
    oe := { s.oe with swdioTms := true }
    out := { s.out with swclkTck := true, swdioTms := true }
    cont := s.cont.map fun c => { c with lastDrivenBit := true }
    target := s.target.drop n
    samples := s.samples + n
    trace := s.trace ++ evs }

/-- The results of a transfer with the acknowledge and the data samples given (R233, R236, R237). -/
def swdReport (rnw : Bool) (ack : BitVec 3) (samples : List Level) (t : State) : State :=
  let okRead := decide (swdAck ack = .ok) && rnw
  let perr := okRead && readParityError samples
  writeAck (if perr then 0b100#3 else ack)
    (writePerr perr (if okRead then writeRdata (readWord samples) t else t))

/-- The request half takes the first `turn + 3` answers, however long the transfer. -/
theorem swdRequestEvents_answers {turn n : Nat} (h : turn + 3 ≤ n) (request : Byte) (s : State) :
    swdRequestEvents request turn (answers n s) = swdRequestEvents request turn (answers (turn + 3) s) := by
  rw [swdRequestEvents, swdRequestEvents, answers_take (by omega), answers_take (by omega), answers_window h,
    answers_window le_rfl]

/-- Both halves of a transfer as one run (R228). -/
theorem runActions_swdTransfer {s : State} (hm : s.mode = .swd) (request : Byte) (turn : Nat) (e : SwdEnding) {n : Nat}
    (hn : turn + 3 + (e.recorded + e.released) = n) :
    runActions e.actions (afterSwdRequest request turn s) =
      (afterSwdTransfer n (swdTransferEvents request turn e (answers n s)) s,
        ((answers n s).drop (turn + 3)).take e.recorded) := by
  subst hn
  have hrest := answers_drop (turn + 3) (e.recorded + e.released) (s := s) (t := afterSwdRequest request turn s) rfl rfl
  rw [runActions_swdEnding e (s := afterSwdRequest request turn s) hm rfl,
    ← answers_take (Nat.le_add_right e.recorded e.released), ← hrest, swdTransferEvents,
    swdRequestEvents_answers (by omega)]
  simp [afterSwdRequest, afterSwdTransfer, Function.comp_def, Nat.add_assoc]

/-- A transfer is the two halves on the wire, then the results. -/
theorem swdTransfer_eq_report {s : State} (hm : s.mode = .swd) (request : Byte) {t : State} {samples : List Level}
    (hrun : runActions (swdEndingOf request s).actions (afterSwdRequest request (turnCycles s) s) = (t, samples)) :
    swdTransfer request s = swdReport (reqRnW request) (swdSampledAck s) samples t := by
  rw [swdEndingOf, ← swdRestPhases_actions, swdSampledAck] at hrun
  simp only [swdTransfer, runPhased_swdRequest hm]
  rw [runPhased, hrun]
  rfl

/-- Everything a transfer does, by the ending its acknowledge leads to. -/
theorem swdTransfer_eq {s : State} (hm : s.mode = .swd) (request : Byte) {e : SwdEnding}
    (he : swdEndingOf request s = e) {n : Nat} (hn : turnCycles s + 3 + (e.recorded + e.released) = n) :
    swdTransfer request s =
      swdReport (reqRnW request) (swdSampledAck s) (((answers n s).drop (turnCycles s + 3)).take e.recorded)
        (afterSwdTransfer n (swdTransferEvents request (turnCycles s) e (answers n s)) s) :=
  swdTransfer_eq_report hm request (by rw [he]; exact runActions_swdTransfer hm request _ e hn)

/-- The report of an Ok read (R233, R236). -/
theorem swdReport_okRead (samples : List Level) (t : State) :
    swdReport true 0b001#3 samples t =
      writeAck (if readParityError samples then 0b100#3 else 0b001#3)
        (writePerr (readParityError samples) (writeRdata (readWord samples) t)) := rfl

/-- The report of every other transfer: the acknowledge as sampled, no data (R237). -/
theorem swdReport_of_noRead {rnw : Bool} {ack : BitVec 3} (h : (decide (swdAck ack = .ok) && rnw) = false)
    (samples : List Level) (t : State) : swdReport rnw ack samples t = writeAck ack (writePerr false t) := by
  simp [swdReport, h]

/-- The sampled acknowledge, out of the answers to a whole transfer. -/
theorem swdSampledAck_eq (s : State) {n : Nat} (h : turnCycles s + 3 ≤ n) :
    wordOfBits 3 (((answers n s).drop (turnCycles s)).take 3) = swdSampledAck s := by
  rw [swdSampledAck, answers_window h]

/-! ### The exact next states -/

/-- Settles O51: 33 recorded samples, the turnaround, and their report. -/
theorem swdTransferReadsOnOk : Obligations.SwdTransferReadsOnOk := by
  intro s request hrun hread turn idle n a data v mismatch hack
  have hrnw : reqRnW request = true := hread
  have hn : turnCycles s + 3 + (33 + turn) = n := by simp only [n, turn, turnCycles]; omega
  have hsamples : ((answers n s).drop (turnCycles s)).take 3 = [true, false, false] := hack
  have hsampled : swdSampledAck s = 0b001#3 := by
    rw [← swdSampledAck_eq s (n := n) (by omega), hsamples]
    rfl
  have hending : swdEndingOf request s = ⟨33, turn, levels idle false⟩ := by
    rw [swdEndingOf, hsampled, hrnw]; rfl
  rw [exec_of_canRun hrun (swdTransfer_eq (eq_of_beq hrun.mode) request hending hn), hsampled, hrnw, swdReport_okRead]
  simp only [afterSwdTransfer, swdTransferEvents, swdRequestEvents, SwdEnding.events, hsamples, List.append_assoc,
    List.drop_drop]
  rfl

/-- A transfer without read data: after the acknowledge, released cycles and driven ones. -/
theorem exec_swdTransfer_noRead {s : State} {request : Byte} (hrun : CanRun (.swdTransfer request) s)
    (hno : (decide (swdAck (swdSampledAck s) = .ok) && reqRnW request) = false) {released n : Nat}
    {driven ack : List Level} (hending : swdEndingOf request s = ⟨0, released, driven⟩)
    (hn : turnCycles s + 3 + released = n) (hack : ((answers n s).drop (turnCycles s)).take 3 = ack) :
    exec (.swdTransfer request) s = .next
      { s with
        oe := { s.oe with swdioTms := true }
        out := { s.out with swclkTck := true, swdioTms := true }
        cont := s.cont.map fun c => { c with lastDrivenBit := true }
        ack := some (wordOfBits 3 ack)
        perr := some false
        written := { s.written with ack := true, perr := true }
        target := s.target.drop n
        samples := s.samples + n
        trace := s.trace ++ [.dir .swdioTms true] ++ swdDriven (packetBits request) ++ [.dir .swdioTms false] ++
          swdReleased ((answers n s).take (turnCycles s)) false ++ swdReleased ack true ++
          swdReleased ((answers n s).drop (turnCycles s + 3)) false ++ [.dir .swdioTms true] ++ swdDriven driven ++
          [.lvl .swdioTms true] } := by
  have hsampled : swdSampledAck s = wordOfBits 3 ack := by rw [← hack, swdSampledAck_eq s (by omega)]
  have hcycles : turnCycles s + 3 + (0 + released) = n := by rw [← hn, Nat.zero_add]
  rw [exec_of_canRun hrun (swdTransfer_eq (eq_of_beq hrun.mode) request hending hcycles), swdReport_of_noRead hno,
    hsampled]
  simp only [afterSwdTransfer, swdTransferEvents, swdRequestEvents, SwdEnding.events, hack, List.append_assoc]
  rfl

/-- Settles O52: after the turnaround the data, its parity and the idle cycles are driven in one run. -/
theorem swdTransferWritesOnOk : Obligations.SwdTransferWritesOnOk := by
  intro s request hrun hwrite turn idle n a hack
  have hrnw : reqRnW request = false := hwrite
  have hsampled : swdSampledAck s = 0b001#3 := by
    rw [← swdSampledAck_eq s (n := n) (Nat.le_add_right _ turn)]
    exact congrArg (wordOfBits 3) hack
  have hending : swdEndingOf request s = ⟨0, turn, writeDataBits s.operands.data ++ levels idle false⟩ := by
    rw [swdEndingOf, hsampled, hrnw]; rfl
  have hdriven : swdDriven (writeDataBits s.operands.data ++ levels idle false) =
      swdDriven (wordBits s.operands.data 32 ++ [parity32 s.operands.data]) ++ swdDriven (levels idle false) :=
    List.map_append
  rw [exec_swdTransfer_noRead hrun (by simp [hrnw]) hending rfl hack, hdriven, ← List.append_assoc]
  rfl

/-- Settles O53: both acknowledges have the same ending, which drives no data and no idle cycles. -/
theorem swdTransferRecoversFromWaitAndFault : Obligations.SwdTransferRecoversFromWaitAndFault := by
  intro s request hrun turn d rnw n a ack hack
  have hn : turnCycles s + 3 + (turn + if d && rnw then 33 else 0) = n := (Nat.add_assoc _ _ _).symm
  have hsampled : swdSampledAck s = wordOfBits 3 ack := (swdSampledAck_eq s (by omega)).symm
  have hcode : swdAck (swdSampledAck s) = .wait ∨ swdAck (swdSampledAck s) = .fault := by
    rw [hsampled]
    exact hack.imp (fun h => by rw [h]; rfl) (fun h => by rw [h]; rfl)
  have hno : (decide (swdAck (swdSampledAck s) = .ok) && reqRnW request) = false := by
    rcases hcode with h | h <;> simp [h]
  have hending : swdEndingOf request s =
      ⟨0, turn + (if d && rnw then 33 else 0), levels (if d && !rnw then 33 else 0) false⟩ := by
    rcases hcode with h | h <;> rw [swdEndingOf, h] <;> rfl
  exact exec_swdTransfer_noRead hrun hno hending hn rfl

/-- Settles O54: any pattern that is none of the three codes is a protocol error, whose ending drives nothing. -/
theorem swdTransferResynchronizesOnProtocolError : Obligations.SwdTransferResynchronizesOnProtocolError := by
  intro s request hrun turn n a ack hok hwait hfault
  have hsampled : swdSampledAck s = ack := (swdSampledAck_eq s (Nat.le_add_right _ _)).symm
  have hcode : swdAck (swdSampledAck s) = .protocolError := by simp [hsampled, swdAck, hok, hwait, hfault]
  have hending : swdEndingOf request s = ⟨0, turn + 33, []⟩ := by rw [swdEndingOf, hcode]; rfl
  rw [exec_swdTransfer_noRead hrun (by simp [hcode]) hending rfl rfl, show swdDriven [] = [] from rfl, List.append_nil]
  rfl

end Sys2Proof.Machine
end

section
/-! What every SWD transfer has in common, whatever its acknowledge (43_swd.md R241, R242, R245): the state of the wire
at its end, and its events counted. -/

namespace Sys2Proof.Machine

/-! ### The report leaves the wire alone -/

theorem swdReport_sameWire (rnw : Bool) (ack : BitVec 3) (samples : List Level) (t : State) :
    (swdReport rnw ack samples t).trace = t.trace ∧ (swdReport rnw ack samples t).oe = t.oe ∧
      (swdReport rnw ack samples t).out = t.out ∧ (swdReport rnw ack samples t).cont = t.cont ∧
      (swdReport rnw ack samples t).operands = t.operands := by
  unfold swdReport
  dsimp only
  cases decide (swdAck ack = .ok) && rnw <;> exact ⟨rfl, rfl, rfl, rfl, rfl⟩

/-- The wire after any transfer that completes: that of `afterSwdTransfer`, by the ending its acknowledge leads to. -/
theorem exec_swdTransfer_wire {s t : State} {request : Byte} (h : exec (.swdTransfer request) s = .next t)
    {n : Nat} (hn : turnCycles s + 3 + ((swdEndingOf request s).recorded + (swdEndingOf request s).released) = n) :
    let u := afterSwdTransfer n
      (swdTransferEvents request (turnCycles s) (swdEndingOf request s) (answers n s)) s
    t.trace = u.trace ∧ t.oe = u.oe ∧ t.out = u.out ∧ t.cont = u.cont ∧ t.operands = u.operands := by
  obtain ⟨hchecks, rfl⟩ := exec_next h
  have hm : s.mode = .swd := eq_of_beq (performedIn_of_refusals hchecks)
  rw [completed, swdTransfer_eq hm request rfl hn]
  exact swdReport_sameWire ..

/-- A transfer ends with its park (R241). -/
theorem swdTransferEvents_getLast? (request : Byte) (turn : Nat) (e : SwdEnding) (a : List Level) :
    (swdTransferEvents request turn e a).getLast? = some (.lvl .swdioTms true) := by
  rw [swdTransferEvents, SwdEnding.events, ← List.append_assoc, List.getLast?_concat]

/-- Writing the data bit of the continuation state keeps its mode-select field. -/
theorem contModeSelect_of_map {s t : State} (b : Level)
    (h : t.cont = s.cont.map fun c => { c with lastDrivenBit := b }) :
    contModeSelect t = contModeSelect s := by
  cases hc : s.cont <;> simp [contModeSelect, h, hc]

/-- Settles O55: the wire of `afterSwdTransfer`, the same for every ending. -/
theorem swdTransferAlwaysParksHigh : Obligations.SwdTransferAlwaysParksHigh := by
  intro s t request h
  obtain ⟨htrace, hoe, hout, hcont, hoperands⟩ := exec_swdTransfer_wire h rfl
  refine ⟨?_, congrArg Lines.swdioTms hoe, congrArg Lines.swdioTms hout, congrArg Lines.swclkTck hout, ?_,
    contModeSelect_of_map true hcont, congrArg Operands.data hoperands⟩
  · rw [htrace, afterSwdTransfer, List.getLast?_append, swdTransferEvents_getLast?]; rfl
  · cases hc : s.cont <;> simp [contDrivenBit, hcont, afterSwdTransfer, hc]

/-! ### The event counts -/

/-- Some events counted: so many `Clk` events, these `Dir` and these `Lvl` events. -/
structure EventCount (clocks : Nat) (dirs lvls evs : List Event) : Prop where
  clocks : (clockEvents evs).length = clocks
  directions : directionEvents evs = dirs
  latches : levelEvents evs = lvls

theorem EventCount.append {m n : Nat} {ds ds' ls ls' es fs : List Event} (h : EventCount m ds ls es)
    (h' : EventCount n ds' ls' fs) : EventCount (m + n) (ds ++ ds') (ls ++ ls') (es ++ fs) := by
  obtain ⟨hclocks, hdirs, hlvls⟩ := h
  obtain ⟨hclocks', hdirs', hlvls'⟩ := h'
  constructor
  · rw [← hclocks, ← hclocks', clockEvents, List.filter_append, List.length_append]; rfl
  · rw [← hdirs, ← hdirs', directionEvents, List.filter_append]; rfl
  · rw [← hlvls, ← hlvls', levelEvents, List.filter_append]; rfl

theorem eventCount_dir (l : Line) (d : Bool) : EventCount 0 [.dir l d] [] [.dir l d] := ⟨rfl, rfl, rfl⟩

theorem eventCount_lvl (l : Line) (b : Level) : EventCount 0 [] [.lvl l b] [.lvl l b] := ⟨rfl, rfl, rfl⟩

theorem eventCount_swdDriven (bits : List Level) : EventCount bits.length [] [] (swdDriven bits) := by
  induction bits with
  | nil => exact ⟨rfl, rfl, rfl⟩
  | cons b bits ih => exact ⟨congrArg (· + 1) ih.clocks, ih.directions, ih.latches⟩

theorem eventCount_swdReleased (ts : List Level) (cap : Bool) :
    EventCount ts.length [] [] (swdReleased ts cap) := by
  induction ts with
  | nil => exact ⟨rfl, rfl, rfl⟩
  | cons t ts ih => exact ⟨congrArg (· + 1) ih.clocks, ih.directions, ih.latches⟩

/-- A transfer counted (R245): its packet, its samples, the levels of its ending; three `Dir` events; the park. -/
theorem swdTransferEvents_count (request : Byte) {turn n : Nat} {e : SwdEnding}
    (hn : turn + 3 + (e.recorded + e.released) = n) {a : List Level} (ha : a.length = n) :
    EventCount (8 + n + e.driven.length) [.dir .swdioTms true, .dir .swdioTms false, .dir .swdioTms true]
      [.lvl .swdioTms true] (swdTransferEvents request turn e a) := by
  have hrequest := ((((eventCount_dir .swdioTms true).append (eventCount_swdDriven (packetBits request))).append
    (eventCount_dir .swdioTms false)).append (eventCount_swdReleased (a.take turn) false)).append
    (eventCount_swdReleased ((a.drop turn).take 3) true)
  have hending := ((((eventCount_swdReleased ((a.drop (turn + 3)).take e.recorded) true).append
    (eventCount_swdReleased ((a.drop (turn + 3)).drop e.recorded) false)).append (eventCount_dir .swdioTms true)).append
    (eventCount_swdDriven e.driven)).append (eventCount_lvl .swdioTms true)
  have hcount := hrequest.append hending
  refine ⟨hcount.clocks.trans ?_, hcount.directions, hcount.latches⟩
  have hpacket : (packetBits request).length = 8 := rfl
  simp only [List.length_take, List.length_drop, ha, hpacket]
  omega

/-- The cycles after the acknowledge of a transfer, by the acknowledge (R245). -/
theorem swdEnding_cycles (a : BitVec 3) (rnw d : Bool) (data : Word) (turn idle : Nat) {e : SwdEnding}
    (he : swdEnding (swdAck a) rnw d data turn idle = e) :
    e.recorded + e.released + e.driven.length =
      if a = 1#3 then turn + 33 + idle else if (a = 2#3 ∨ a = 4#3) ∧ d = false then turn else turn + 33 := by
  subst he
  by_cases hok : a = 1#3
  · cases rnw <;> simp [hok, swdAck, swdEnding, writeDataBits] <;> omega
  · by_cases hwait : a = 2#3
    · cases rnw <;> cases d <;> simp [hwait, swdAck, swdEnding]
    · by_cases hfault : a = 4#3
      · cases rnw <;> cases d <;> simp [hfault, swdAck, swdEnding]
      · simp [hok, hwait, hfault, swdAck, swdEnding]

/-- Settles O56: the events of the transfer, counted, with the cycles its acknowledge leads to. -/
theorem swdEventCounts : Obligations.SwdEventCounts := by
  intro s t request evs h htrace turn idle ack
  have hwire := (exec_swdTransfer_wire h rfl).1
  obtain rfl := List.append_cancel_left (hwire.symm.trans htrace)
  have hcount := swdTransferEvents_count request (turn := turnCycles s) (e := swdEndingOf request s) rfl
    (answers_length _ s)
  refine ⟨hcount.clocks.trans ?_, hcount.directions, hcount.latches, swdTransferEvents_getLast? ..⟩
  have hcycles := swdEnding_cycles ack (reqRnW request) s.operands.cfg.swd.dataPhaseOnError s.operands.data
    turn idle (e := swdEndingOf request s) rfl
  have hturn : turnCycles s = turn := rfl
  split_ifs at hcycles ⊢ <;> omega

end Sys2Proof.Machine
end

section
/-! Parity and its round trip through a transfer (43_swd.md R220, R223, R236). -/

namespace Sys2Proof.Machine

/-! ### Parity -/

/-- Each one among the bits flips their exclusive or. -/
theorem foldl_xor_eq (b : Level) (bits : List Level) :
    bits.foldl Bool.xor b = (b ^^ decide ((bits.filter id).length % 2 = 1)) := by
  induction bits generalizing b with
  | nil => simp
  | cons x bits ih =>
    cases x with
    | false => simpa using ih b
    | true =>
      rw [List.foldl_cons, ih, List.filter_cons_of_pos rfl, List.length_cons]
      rcases Nat.mod_two_eq_zero_or_one (bits.filter id).length with h | h <;> cases b <;> simp [h, Nat.add_mod]

/-- `parity32` is 1 exactly for an odd number of ones (R220, C6). -/
theorem parity32_eq (v : Word) :
    parity32 v = decide (((List.range 32).filter fun i => v.getLsbD i).length % 2 = 1) := by
  rw [parity32, xorBits, foldl_xor_eq, Bool.false_xor, wordBits, List.filter_map, List.length_map]
  rfl

/-! ### The read of written data -/

/-- The 33 samples of a data phase, taken apart: the first 32 are the word (R232). -/
theorem wordOfBits_take_wordBits (v : Word) (p : Level) : wordOfBits 32 ((wordBits v 32 ++ [p]).take 32) = v := by
  rw [List.take_left' (wordBits_length v 32), wordOfBits_wordBits]

/-- The 33rd sample of a data phase is its parity bit (R232). -/
theorem getD_wordBits_parity (v : Word) (p : Level) : (wordBits v 32 ++ [p]).getD 32 false = p := by
  simp

/-- An Ok read whose samples carry `v` and the parity bit `p` returns `v`, and reports whether `p` is the parity of `v`
(R236). -/
theorem swdTransfer_returns {s : State} {request : Byte} {v : Word} {p : Level} (hrun : CanRun (.swdTransfer request) s)
    (hread : request.getLsbD 1 = true)
    (h : (answers (turnCycles s + 36) s).drop (turnCycles s) = [true, false, false] ++ (wordBits v 32 ++ [p])) :
    ∃ t, exec (.swdTransfer request) s = .next t ∧ readRdata t = .ok v ∧ readPerr t = .ok (p != parity32 v) ∧
      readAck t = .ok (if p != parity32 v then 0b100#3 else 0b001#3) := by
  let n := turnCycles s + 3 + 33 + turnCycles s
  have hwindow : ((answers n s).drop (turnCycles s)).take 36 = [true, false, false] ++ (wordBits v 32 ++ [p]) :=
    (answers_window (Nat.le_add_right _ _) s).trans h
  have hack : ((answers n s).drop (turnCycles s)).take 3 = [true, false, false] := by
    simpa [List.take_take] using congrArg (List.take 3) hwindow
  have hdata : ((answers n s).drop (turnCycles s + 3)).take 33 = wordBits v 32 ++ [p] := by
    simpa [List.drop_take, List.drop_drop] using congrArg (List.drop 3) hwindow
  have hword : wordOfBits 32 ((((answers n s).drop (turnCycles s + 3)).take 33).take 32) = v := by
    rw [hdata, wordOfBits_take_wordBits]
  have hmismatch : ((((answers n s).drop (turnCycles s + 3)).take 33).getD 32 false !=
      parity32 (wordOfBits 32 ((((answers n s).drop (turnCycles s + 3)).take 33).take 32))) = (p != parity32 v) := by
    rw [hword, hdata, getD_wordBits_parity]
  exact ⟨_, swdTransferReadsOnOk s request hrun hread hack, congrArg Except.ok hword, congrArg Except.ok hmismatch,
    congrArg (fun m : Bool => Except.ok (if m then 0b100#3 else 0b001#3)) hmismatch⟩

/-- Settles O57: `swdTransfer_returns` with the parity bit of the word and with its complement. -/
theorem writtenDataReadsBack : Obligations.WrittenDataReadsBack := by
  refine ⟨parity32_eq, by decide, by decide, by decide, by decide, by decide, by decide, by decide, parity4_eq, ?_⟩
  intro s request v turn hrun hread hturn
  obtain rfl : turnCycles s = turn := by
    simp only [List.mem_cons, Prod.mk.injEq, List.not_mem_nil, or_false] at hturn
    rcases hturn with ⟨h, rfl⟩ | ⟨h, rfl⟩ | ⟨h, rfl⟩ | ⟨h, rfl⟩ <;> rw [turnCycles, h] <;> rfl
  constructor
  · intro h
    have hmatch : (parity32 v != parity32 v) = false := bne_self_eq_false _
    simpa [hmatch] using swdTransfer_returns hrun hread (p := parity32 v) h
  · intro h
    have hmismatch : ((!parity32 v) != parity32 v) = true := by cases parity32 v <;> rfl
    rw [List.append_assoc] at h
    simpa only [hmismatch, if_true] using swdTransfer_returns hrun hread (p := !parity32 v) h

end Sys2Proof.Machine
end

section
/-! The Transport Selector's mode operations as one record each (44_transport_selector.md R261 to R266): the tear-down,
the two ends of a set-up, and from them the ownership table of the shift engine (R269). -/

namespace Sys2Proof.Machine

/-! ### The tear-down -/

/-- A tear-down takes the engine from either protocol and leaves it to the trace owner (R261). -/
theorem releasedOwner_eq (o : Owner) : releasedOwner o = if o = .trace then .trace else .free := by
  cases o <;> rfl

/-- Settles O21: `tearDown_eq`, with the owner it leaves. -/
theorem portOffTearsDown : Obligations.PortOffTearsDown := by
  intro s
  refine exec_of_unguarded rfl rfl ?_
  rw [completed, tearDown_eq, releasedOwner_eq, Lines.all]

/-- A tear-down has nothing left to release after another one: it adds its events only (R266). -/
theorem tearDown_tearDown (s : State) :
    tearDown (tearDown s) = { tearDown s with trace := (tearDown s).trace ++ tearDownEvents } := by
  have howner : releasedOwner (releasedOwner s.shiftOwner) = releasedOwner s.shiftOwner := by
    cases s.shiftOwner <;> rfl
  simp [tearDown_eq, howner]

/-- Settles O22: the fields of `tearDown_eq`, and `tearDown_tearDown`. -/
theorem portOffIsIdempotent : Obligations.PortOffIsIdempotent := by
  intro s t h
  obtain ⟨-, rfl⟩ := exec_next h
  have hagain : exec .portOff (tearDown s) = .next (tearDown (tearDown s)) := rfl
  rw [completed, hagain, tearDown_tearDown, tearDown_eq]
  refine ⟨rfl, rfl, fun l => by cases l <;> rfl, rfl, rfl, rfl, ?_, rfl, rfl⟩
  cases s.shiftOwner <;> simp [releasedOwner]

/-! ### The two ends of a set-up -/

/-- The engine is taken where the trace owner has the hardware backend's (R262). -/
theorem engineTaken_iff (s : State) :
    engineTaken s = true ↔ s.params.backend = .hardware ∧ s.operands.trace = true := by
  simp [engineTaken]

/-- The state in which a set-up that finds the engine free writes its lines: torn down, the engine claimed where there
is one, the mode entered (R263, R264). -/
def readyForLines (m : Mode) (owner : Owner) (s : State) : State :=
  { s with
    mode := m, cont := some ⟨true, true⟩, slew := s.params.slew
    oe := ⟨false, false, false, false, false⟩, enabled := false
    src := if s.params.backend = .hardware then .shifter else .latch
    shiftOwner := if s.params.backend = .hardware then owner else if s.shiftOwner = .trace then .trace else .free
    trace := s.trace ++ tearDownEvents }

theorem enterMode_claimEngine_tearDown (m : Mode) (owner : Owner) (s : State) :
    enterMode m (claimEngine owner (tearDown s)) = readyForLines m owner s := by
  cases hb : s.params.backend <;>
    simp [enterMode, claimEngine, tearDown_eq, releasedOwner_eq, Lines.all, readyForLines, hb]

/-- Everything a set-up does (R262 to R264), but for the line writes it makes where the engine is free. -/
theorem portSetup_eq (m : Mode) (owner : Owner) (lines : List Action) (s : State) :
    portSetup m owner lines s =
      if s.params.backend = .hardware ∧ s.operands.trace = true then
        { s with
          mode := .disabled, cont := none, src := .latch, shiftOwner := .trace
          oe := ⟨false, false, false, false, false⟩, enabled := false
          ok := some false, written := { s.written with ok := true }
          trace := s.trace ++ tearDownEvents }
      else writeOk true (runActions lines (readyForLines m owner s)).1 := by
  by_cases h : engineTaken s = true
  · rw [portSetup, if_pos h, if_pos ((engineTaken_iff s).mp h), tearDown_eq]
    rfl
  · rw [portSetup, if_neg h, if_neg (mt (engineTaken_iff s).mpr h), enterMode_claimEngine_tearDown]

/-- Settles O23: `portSetup_eq` with the line writes of `runActions_jtagSetup`. -/
theorem portJtagSetupConfiguresOrFails : Obligations.PortJtagSetupConfiguresOrFails := by
  intro s
  refine exec_of_unguarded rfl rfl ?_
  rw [completed, portSetup_eq, runActions_jtagSetup rfl rfl]
  rfl

/-- Settles O24: `portSetup_eq` with the line writes of `runActions_swdSetup`. -/
theorem portSwdSetupConfiguresOrFails : Obligations.PortSwdSetupConfiguresOrFails := by
  intro s
  refine exec_of_unguarded rfl rfl ?_
  rw [completed, portSetup_eq, runActions_swdSetup rfl rfl]
  rfl

/-! ### The ownership table -/

/-- With the software backend no operation gives the engine an owner (R269): the invariant of the state it ends in. -/
theorem exec_shiftOwner_software {i : Instr} {s t : State} (hs : Consistent s) (hb : s.params.backend = .software)
    (h : exec i s = .next t) : t.shiftOwner = .free := by
  obtain ⟨-, hparams, -⟩ := operandsAreNeverWritten i s t h
  obtain ⟨hfree, -⟩ := (exec_consistent h hs).software (hparams ▸ hb)
  exact hfree

/-- Settles O25: the invariant with the software backend; with the hardware backend the owner that each mode operation
leaves, and `onlyModeOperationsReconfigure` for the other operations. -/
theorem ownershipFollowsTheTable : Obligations.OwnershipFollowsTheTable := by
  intro s t hs
  refine ⟨fun hb i h => exec_shiftOwner_software hs hb h, fun hb => ⟨fun h => ?_, fun h => ?_, fun h => ?_, ?_⟩⟩
  · obtain rfl := Host.Outcome.next.inj ((portOffTearsDown s).symm.trans h)
    rfl
  · obtain rfl := Host.Outcome.next.inj ((portJtagSetupConfiguresOrFails s).symm.trans h)
    cases htrace : s.operands.trace <;> simp [hb]
  · obtain rfl := Host.Outcome.next.inj ((portSwdSetupConfiguresOrFails s).symm.trans h)
    cases htrace : s.operands.trace <;> simp [hb]
  · intro i hi h
    obtain ⟨-, -, -, howner, -⟩ := onlyModeOperationsReconfigure i s t hi h
    exact howner

end Sys2Proof.Machine
end

section
/-! `SWJ_SEQUENCE` in the three modes (44_transport_selector.md R270, R272): a walk on TMS, driven SWCLK pulses behind
the direction helper, or latch writes. -/

namespace Sys2Proof.Machine

/-- A TMS sequence of at least one cycle (R176): the bits on TMS, the continuation bit on TDI. -/
theorem runActions_tmsSeq {bits : List Level} (hne : bits ≠ []) (s : State) :
    (runActions (tmsSeq bits) s).1 =
      { s with
        out := { s.out with swclkTck := true, swdioTms := bits.getLastD true, tdi := contDrivenBit s }
        cont := some { lastDrivenBit := contDrivenBit s, lastModeSelectLevel := bits.getLastD true }
        target := s.target.drop bits.length
        samples := s.samples + bits.length
        trace := s.trace ++
          jtagRun bits (levels bits.length (contDrivenBit s)) (answers bits.length s) (levels bits.length false) } := by
  have hlength : bits.length ≠ 0 := by simpa using hne
  have htdi : resolve (contDrivenBit s) (List.replicate bits.length none) = levels bits.length (contDrivenBit s) :=
    resolve_replicate_none _ _
  rw [tmsSeq, (clocks_walk bits).run hne, htdi]
  simp [afterTck, lastLevel_levels hlength, lastLevel_of_ne_nil hne _ true]

/-- The SWJ sequence of the SWD engine (R224): SWDIO made an output, then at least one driven pulse. -/
theorem runActions_swdSwj {bits : List Level} (hne : bits ≠ []) {s : State} (hm : s.mode = .swd) :
    (runActions (swdSwjActions bits) s).1 =
      { s with
        oe := { s.oe with swdioTms := true }
        out := { s.out with swclkTck := true, swdioTms := bits.getLastD true }
        cont := s.cont.map fun c => { c with lastDrivenBit := bits.getLastD true }
        trace := s.trace ++ [.dir .swdioTms true] ++ swdDriven bits } := by
  simp [swdSwjActions, runActions_cons, runAction, runActions_driven, afterDriven_of_ne_nil hne,
    lineDir_swdioTms_output, hm, Function.comp_def]

/-- The three latch writes of one bit with no active mode (R272): no continuation state to update. -/
theorem runActions_swjFallback_bit (b : Level) {s : State} (hm : s.mode = .disabled) :
    (runActions [.set .swdioTms b, .set .swclkTck false, .set .swclkTck true] s).1 =
      { s with
        out := { s.out with swclkTck := true, swdioTms := b }
        trace := s.trace ++ [.lvl .swdioTms b, .lvl .swclkTck false, .lvl .swclkTck true] } := by
  simp [runActions_cons, runAction, lineSet_swdioTms, lineSet_swclkTck, hm]

/-- The fallback of at least one bit (R272): the clock latch ends high, the mode-select latch at the last bit. -/
theorem runActions_swjFallback {bits : List Level} (hne : bits ≠ []) {s : State} (hm : s.mode = .disabled) :
    (runActions (swjFallback bits) s).1 =
      { s with
        out := { s.out with swclkTck := true, swdioTms := bits.getLastD true }
        trace := s.trace ++
          bits.flatMap fun b => [.lvl .swdioTms b, .lvl .swclkTck false, .lvl .swclkTck true] } := by
  induction bits generalizing s with
  | nil => contradiction
  | cons b bits ih =>
    rw [swjFallback, List.flatMap_cons, ← swjFallback, runActions_append, runActions_swjFallback_bit b hm]
    rcases eq_or_ne bits [] with rfl | hbits
    · rfl
    · have hlast : (b :: bits).getLastD true = bits.getLastD true := by
        rw [← lastLevel_eq_getLastD, lastLevel_cons, lastLevel_of_ne_nil hbits]
      dsimp only
      rw [ih hbits (by exact hm), hlast]
      simp

/-- Settles O26: the run of each mode's actions on the bits of `TXBUF`. -/
theorem swjSequenceDispatchesOnTheMode : Obligations.SwjSequenceDispatchesOnTheMode := by
  intro s hrun hpos n bits
  have hlength : bits.length = n := txBits_length n s
  have hne : bits ≠ [] := List.ne_nil_of_length_pos (hlength ▸ hpos)
  refine exec_of_canRun hrun ?_
  rw [completed, show txBits (countOperand s) s = bits from rfl]
  cases hm : s.mode with
  | jtag => simpa only [swjActions, hne, if_false, hlength, hm] using runActions_tmsSeq hne s
  | swd => simpa only [swjActions, hne, if_false, hm] using runActions_swdSwj hne hm
  | disabled => simpa only [swjActions, hne, if_false, hm] using runActions_swjFallback hne hm

end Sys2Proof.Machine
end

section
/-! No outcome of an operation is thrown (60_exceptions.md R290): the one fault of a step is the engine that never becomes
ready (70_reset_and_hazards.md R334), and the software backend has no engine to wait for. -/

namespace Sys2Proof.Machine

/-- An operation faults exactly where nothing refuses it and the engine never answers the cycles it clocks (R334). -/
theorem exec_eq_fault_iff {i : Instr} {s : State} {f : Fault} :
    exec i s = .fault f ↔
      (∀ c ∈ refusals i s, c = none) ∧ clocksCycles i s = true ∧ engineStuck s = true ∧ f = .engineNeverReady := by
  have hchecks : (refusals i s).findSome? id = none ↔ ∀ c ∈ refusals i s, c = none := List.findSome?_eq_none_iff
  rw [exec_eq, unlessRefused, ← hchecks]
  cases (refusals i s).findSome? id with
  | some r => simp
  | none => cases clocksCycles i s <;> cases h : engineStuck s <;> simp [unlessStuck, h, eq_comm]

/-- A step that faults performs the issued operation: an idle step and a reserved word raise nothing (R99, R321). -/
theorem exec_of_step_fault {s : State} {f : Fault} (h : step s = .fault f) :
    ∃ i c rest, exec i (takeCommand c rest s) = .fault f := by
  cases hprogram : s.program with
  | nil => simp [step, fetch, hprogram] at h
  | cons c rest =>
    cases hdecode : decode c.word with
    | error e =>
      rw [stepRefusesReservedWords s c rest e hprogram hdecode] at h
      contradiction
    | ok i =>
      rw [step_of_fetch_operation (fetch_of_decode_ok hprogram hdecode)] at h
      exact ⟨i, c, rest, h⟩

/-- The software backend never waits (R334), whatever the ready flag of the hardware engine says. -/
theorem engineStuck_of_software {s : State} (hb : s.params.backend = .software) : engineStuck s = false := by
  simp [engineStuck, hb]

/-- Settles O10: a fault comes from the operation performed and needs a stuck engine; taking a command keeps the
backend. -/
theorem softwareStepsNeverFault : Obligations.SoftwareStepsNeverFault := by
  intro s f hb h
  obtain ⟨i, c, rest, hexec⟩ := exec_of_step_fault h
  obtain ⟨-, -, hstuck, -⟩ := exec_eq_fault_iff.mp hexec
  have hready : engineStuck (takeCommand c rest s) = false := engineStuck_of_software hb
  exact Bool.false_ne_true (hready.symm.trans hstuck)

end Sys2Proof.Machine
end

section
/-! Which operations end in a fault (70_reset_and_hazards.md R334): those that are performed and clock a cycle, and only
where the engine never becomes ready. -/

namespace Sys2Proof.Machine

/-- Settles O9: an operation faults where no check refuses it and the engine hangs; that no check refuses it is the mode
table with the legal operands. -/
theorem onlyAStuckEngineFaults : Obligations.OnlyAStuckEngineFaults := by
  intro i s f
  rw [exec_eq_fault_iff, refusals_none_iff]
  constructor
  · rintro ⟨⟨hmode, hoperands⟩, hcycles, hstuck, hfault⟩
    exact ⟨hfault, hmode, hoperands, hcycles, hstuck⟩
  · rintro ⟨hfault, hmode, hoperands, hcycles, hstuck⟩
    exact ⟨⟨hmode, hoperands⟩, hcycles, hstuck, hfault⟩

end Sys2Proof.Machine
end
